-- ==== Sys2Proof/Word.lean ====
section
/-!
DEFINITION. Word types and the numbers that name the parts of the DQ-416 (00_scope.md, Conventions).
Only abbreviations and plain data: everything that computes with them is under Machine/.
-/
namespace Sys2Proof

/-- A byte on a station port: 8 bits (00_scope.md, Words and bytes). -/
abbrev Byte := BitVec 8

/-- A 16-bit word: a ring word, a link data word, a wrapping 16-bit count. -/
abbrev Word16 := BitVec 16

/-- A reading of the timestamp counter: 56 bits of 0.5 ps ticks, which wraps (R132). -/
abbrev Stamp := BitVec 56

/-- Stations 0 to 3; also the number of the station's port and of its result ring. -/
abbrev StationId := Fin 4

/-- Sockets 0 to 15. -/
abbrev SocketId := Fin 16

/-- Lanes L0 to L3. -/
abbrev LaneId := Fin 4

/-- Pairs P0 and P1. -/
abbrev PairId := Fin 2

/-- Masks 0 to 23. -/
abbrev MaskId := Fin 24

/-- Synthesizer link addresses 0 to 3, which also number the lock lines. -/
abbrev SynthAddr := Fin 4

/-- A request id, 0 to 65534; 65535 means "no request" in answers (R88). -/
abbrev RequestId := BitVec 16

/-- A request is named by its station and its id together (R88). -/
structure RequestRef where
  station : StationId
  id : RequestId
  deriving DecidableEq, Repr

/-- A subset of stations 0 to 3: entry n says whether station n is a member. -/
abbrev StationSet := Vector Bool 4

/-- A measured level, exactly as the analog path gives it: `num / den` tenths of dBc/Hz.
The part rounds it (R11, R76); `den` is above 0 in every level a path can give (WellFormed). -/
structure Level where
  num : Int
  den : Nat
  deriving DecidableEq, Repr

/-- What a correlator gathers of one offset decade over one segment: the cross-spectrum of phase channels A and B, a
complex number, relative to the carrier and per Hz, in units of 10^-40 (the unit is log 6). -/
structure CrossSpectrum where
  re : Int
  im : Int
  deriving DecidableEq, Repr

end Sys2Proof
end

