-- ==== Sys2Proof/Syntax.lean ====
section
/-!
DEFINITION. The commands and events of the DQ-416: one constructor per row of spec/opcode_table.json, in the
table's order. The table gives no operands; those below are what the row's rule names.

- A command of a station carries its port and its payload bytes. The constructor stands for the completion of a
  frame with that command's code (R174), whatever the payload holds: a wrong length is answered FRAME by the
  port (R175), contents outside their ranges by the owning block.
- POWER SOCKET has one code, 0x12, and two rows: the row is chosen by the setting byte (R50, R51).
- An event of a line or timer carries what it happens to. An event that reports an analog measurement or a word
  read on the link carries the measured value, which comes from outside the part.
-/
namespace Sys2Proof

/-- A low of a station's reset input SRSTN as an event meets it: it begins (`held` false), or it has lasted 1 µs
(`held` true) (R183). -/
structure SrstnLow where
  station : StationId
  held : Bool
  deriving DecidableEq, Repr

/-- One command or event of the DQ-416. -/
inductive Instr where
  /-- GET_STATUS (R180), code 0x01. -/
  | getStatus (port : StationId) (payload : List Byte)
  /-- ACK_NOTICES (R181), code 0x02. -/
  | ackNotices (port : StationId) (payload : List Byte)
  /-- SET_PORT_MODE (R182), code 0x03. -/
  | setPortMode (port : StationId) (payload : List Byte)
  /-- STATION_RESET (R185), code 0x04. -/
  | stationReset (port : StationId) (payload : List Byte)
  /-- CLAIM_SOCKET (R47), code 0x10. -/
  | claimSocket (port : StationId) (payload : List Byte)
  /-- RELEASE_SOCKET (R48), code 0x11. -/
  | releaseSocket (port : StationId) (payload : List Byte)
  /-- POWER_SOCKET_ON (R50), code 0x12 with a setting byte other than 0. -/
  | powerSocketOn (port : StationId) (payload : List Byte)
  /-- POWER_SOCKET_OFF (R51), code 0x12 with setting byte 0, or none. -/
  | powerSocketOff (port : StationId) (payload : List Byte)
  /-- SET_EFC (R55), code 0x13. -/
  | setEfc (port : StationId) (payload : List Byte)
  /-- QUERY_SOCKET (R59), code 0x14. -/
  | querySocket (port : StationId) (payload : List Byte)
  /-- SET_QUIET_TIME (R62), code 0x15. -/
  | setQuietTime (port : StationId) (payload : List Byte)
  /-- WRITE_MASK (R33), code 0x20. -/
  | writeMask (port : StationId) (payload : List Byte)
  /-- ERASE_MASK (R35), code 0x21. -/
  | eraseMask (port : StationId) (payload : List Byte)
  /-- READ_MASK (R36), code 0x22. -/
  | readMask (port : StationId) (payload : List Byte)
  /-- TUNE_PAIR (R83), code 0x30. -/
  | tunePair (port : StationId) (payload : List Byte)
  /-- QUERY_PAIR (R82), code 0x31. -/
  | queryPair (port : StationId) (payload : List Byte)
  /-- SUBMIT (R89), code 0x40. -/
  | submit (port : StationId) (payload : List Byte)
  /-- CANCEL (R92), code 0x41. -/
  | cancel (port : StationId) (payload : List Byte)
  /-- QUERY_REQUEST (R96), code 0x42. -/
  | queryRequest (port : StationId) (payload : List Byte)
  /-- QUERY_LANE (R131), code 0x50. -/
  | queryLane (port : StationId) (payload : List Byte)
  /-- READ_RECORD (R155), code 0x60. -/
  | readRecord (port : StationId) (payload : List Byte)
  /-- READ_COUNTERS (R171), code 0x70. -/
  | readCounters (port : StationId) (payload : List Byte)
  /-- COUNTER_CONTROL (R170), code 0x71. -/
  | counterControl (port : StationId) (payload : List Byte)
  /-- UNKNOWN_COMMAND (R176): a complete frame whose code names no command. -/
  | unknownCommand (port : StationId) (code : Byte) (payload : List Byte)
  /-- FRAME_LENGTH_ERROR (R175): a length byte above 120. -/
  | frameLengthError (port : StationId) (length : Byte)
  /-- CSN_FALL (R174). -/
  | csnFall (port : StationId)
  /-- CSN_RISE (R175). -/
  | csnRise (port : StationId)
  /-- SRSTN_ASSERTION (R183): the station's reset input falls, or has then been low for 1 µs, which starts a station
  reset (log 21). -/
  | srstnAssertion (low : SrstnLow)
  /-- RESET_STEP_POOL (R93): station reset step 1. -/
  | resetStepPool (station : StationId)
  /-- RESET_STEP_LANES (R129): station reset step 2. -/
  | resetStepLanes (station : StationId)
  /-- RESET_STEP_RING (R158): station reset step 3. -/
  | resetStepRing (station : StationId)
  /-- RESET_STEP_SOCKETS (R65): station reset step 4. -/
  | resetStepSockets (station : StationId)
  /-- RESET_STEP_PORT (R184): station reset step 5. -/
  | resetStepPort (station : StationId)
  /-- RESET_STEP_REQUEST_IDS (R88): station reset step 6. -/
  | resetStepRequestIds (station : StationId)
  /-- SRSTN_RELEASE (R183): a rise of the station's reset input. -/
  | srstnRelease (station : StationId)
  /-- DEVICE_RESET (R186): power-on, or RESET_N low for 1 µs. -/
  | deviceReset
  /-- DEVICE_RESET_END (R186). -/
  | deviceResetEnd
  /-- PRESENT_CHANGE (R44): the PRESENT input takes a new level. -/
  | presentChange (socket : SocketId) (high : Bool)
  /-- RISE_ACCEPTED (R45): the 10 ms debounce expires with the input high. -/
  | riseAccepted (socket : SocketId)
  /-- FALL_ACCEPTED (R46): the 2 ms debounce expires with the input low. -/
  | fallAccepted (socket : SocketId)
  /-- SUPPLY_FAULT (R52): the SFAULT input takes a new level; a rise is the supply fault event, a fall has no
  effect but on the level (R52). -/
  | supplyFault (socket : SocketId) (high : Bool)
  /-- POWERED_FOR_INCREASE (R53): the end of a full second of supply ON. -/
  | poweredForIncrease (socket : SocketId)
  /-- MOTION_ASSERTION (R60): a rise of MOTION. -/
  | motionAssertion
  /-- MOTION_FALL (R61). -/
  | motionFall
  /-- QUIET_TIMER_EXPIRY (R61). -/
  | quietTimerExpiry
  /-- CUTOFF_ASSERTION (R63): a rise of CUTOFF. -/
  | cutoffAssertion
  /-- CUTOFF_DEASSERTION (R64): a fall of CUTOFF. -/
  | cutoffDeassertion
  /-- RML_WRITE_COMPLETE (R70): the write on the link completes. -/
  | rmlWriteComplete
  /-- RML_READ_INCREMENT_COMPLETE (R70): the read-increment on the link completes with these words. -/
  | rmlReadIncrementComplete (words : List Word16)
  /-- LOCK_RISE (R74): a rise of the lock line of the synthesizer at this address. -/
  | lockRise (synth : SynthAddr)
  /-- LOCK_FALL (R78). -/
  | lockFall (synth : SynthAddr)
  /-- LOCK_TIMER_EXPIRY (R74). -/
  | lockTimerExpiry (pair : PairId)
  /-- SETTLE_TIMER_EXPIRY (R75). -/
  | settleTimerExpiry (pair : PairId)
  /-- CALIBRATION_COMPLETION (R76), with the level the floor path measured for each decade. -/
  | calibrationCompletion (pair : PairId) (measured : Vector Level 8)
  /-- RELOCK_TIMER_EXPIRY (R79). -/
  | relockTimerExpiry (pair : PairId)
  /-- COUNTED_SEGMENT_COMPLETION (R113), with the cross-spectrum of the segment for each decade (R11). -/
  | countedSegmentCompletion (lane : LaneId) (segment : Vector CrossSpectrum 8)
  /-- SETTLE_COMPLETION (R114). -/
  | settleCompletion (lane : LaneId)
  /-- EFC_SETTLE_EXPIRY (R111). -/
  | efcSettleExpiry (lane : LaneId)
  /-- RUN_TIMER_EXPIRY (R115): the run timer of the lane's active run expires. -/
  | runTimerExpiry (lane : LaneId)
  /-- ETU_INPUT_TRANSITION (R134): the signal of this socket's oscillator takes a new level when the timestamp
  counter reads `stamp`; the unit whose lane is connected to the socket sees it on its input. -/
  | etuInputTransition (socket : SocketId) (high : Bool) (stamp : Stamp)
  /-- FILTER_WIDTH_EXPIRY (R134). -/
  | filterWidthExpiry (lane : LaneId)
  /-- EDGE_TIMEOUT (R139). -/
  | edgeTimeout (lane : LaneId)
  /-- ANSWER_SHIFTED_OUT (R174): the last byte of the answer has been clocked out. -/
  | answerShiftedOut (port : StationId)
  deriving DecidableEq, Repr

end Sys2Proof
end

