-- ==== Sys2Proof/Config.lean ====
section
/-!
DEFINITION. The intervals the spec fixes, in ticks of the timebase (0.5 ps, R132), and the free values:
values of which the spec says that they result but not which they are.
-/
namespace Sys2Proof

/-- One microsecond in ticks of 0.5 ps (R132). -/
def Config.microsecond : Nat := 2000000

/-- One millisecond in ticks of 0.5 ps. -/
def Config.millisecond : Nat := 2000000000

/-- One second in ticks of 0.5 ps. -/
def Config.second : Nat := 2000000000000

/-- How long SRSTN must be low to be taken (R183). -/
def Config.resetLowTime : Nat := Config.microsecond

/-- The debounce interval of a rise of PRESENT (R44). -/
def Config.riseDebounce : Nat := 10 * Config.millisecond

/-- The debounce interval of a fall of PRESENT (R44). -/
def Config.fallDebounce : Nat := 2 * Config.millisecond

/-- The lock timer (R74). -/
def Config.lockTime : Nat := 20 * Config.millisecond

/-- The relock timer (R78). -/
def Config.relockTime : Nat := 20 * Config.millisecond

/-- The settle interval after a first lock or a change of range (R74). -/
def Config.longSettle : Nat := 200 * Config.millisecond

/-- The settle interval otherwise (R74, R79). -/
def Config.shortSettle : Nat := 100 * Config.millisecond

/-- The edge timeout (R139). -/
def Config.edgeTimeout : Nat := 50 * Config.microsecond

/-- One step of the glitch filter setting, 250 ps, in ticks (R28). -/
def Config.filterStep : Nat := 500

/-- The word store of a result ring (R147). -/
def Config.ringWords : Nat := 512

/-- The places of the request pool, and those one station may hold (R86). -/
def Config.poolPlaces : Nat := 32

/-- The places of the request pool that one station may hold (R86). -/
def Config.stationPlaces : Nat := 16

/-- The most payload bytes a frame may carry (Station Ports, The transaction). -/
def Config.maxPayload : Nat := 120

/-- FREE VALUE. The frequency offset R141 computes divides by the span; for a window whose span is 0 ticks the
rule states no value. A function of the period count, with no body: nothing can be proved of it. -/
opaque Config.offsetAtZeroSpan : Nat → Int

/-- FREE VALUE. The duty cycle R144 divides by the span; for a span of 0 ticks the rule states no value.
A function of the sum of high times. -/
opaque Config.dutyAtZeroSpan : Nat → Nat

/-- FREE VALUE. The pull R145 divides by both spans; where one of them is 0 ticks the rule states no value.
A function of the two spans. -/
opaque Config.pullAtZeroSpan : Nat → Nat → Nat

end Sys2Proof
end

