-- ==== Sys2Proof/WellFormed.lean ====
section
/-!
DEFINITION. Which terms of `Instr` the outside can send: the checks the types of the operands do not make.
`exec` is total on every term; these checks say which ones stand for something that can happen.
-/
namespace Sys2Proof

/-- The code of each command, as the command table of 10_station_ports.md gives it. -/
def knownCodes : List Byte :=
  [0x01, 0x02, 0x03, 0x04, 0x10, 0x11, 0x12, 0x13, 0x14, 0x15, 0x20, 0x21, 0x22, 0x30, 0x31,
   0x40, 0x41, 0x42, 0x50, 0x60, 0x70, 0x71]

/-- A complete frame carries 0 to 120 payload bytes (The transaction, R174, R175). -/
def payloadFits (payload : List Byte) : Bool := decide (payload.length ≤ Config.maxPayload)

/-- The setting byte of a POWER SOCKET frame chooses its row: 0, or no setting byte, is POWER_SOCKET_OFF; any
other value is POWER_SOCKET_ON, where a value above 1 is answered RANGE (R50, R51). -/
def settingIsOff (payload : List Byte) : Bool := decide (payload.getD 1 0 = 0)

/-- Every level the floor path reports has a positive denominator. -/
def levelsProper (levels : Vector Level 8) : Bool := levels.toList.all fun v => decide (0 < v.den)

/-- The term stands for a command or event that can reach the part. -/
def Instr.wellFormed : Instr → Bool
  | .getStatus _ b => payloadFits b
  | .ackNotices _ b => payloadFits b
  | .setPortMode _ b => payloadFits b
  | .stationReset _ b => payloadFits b
  | .claimSocket _ b => payloadFits b
  | .releaseSocket _ b => payloadFits b
  | .powerSocketOn _ b => payloadFits b && !settingIsOff b
  | .powerSocketOff _ b => payloadFits b && settingIsOff b
  | .setEfc _ b => payloadFits b
  | .querySocket _ b => payloadFits b
  | .setQuietTime _ b => payloadFits b
  | .writeMask _ b => payloadFits b
  | .eraseMask _ b => payloadFits b
  | .readMask _ b => payloadFits b
  | .tunePair _ b => payloadFits b
  | .queryPair _ b => payloadFits b
  | .submit _ b => payloadFits b
  | .cancel _ b => payloadFits b
  | .queryRequest _ b => payloadFits b
  | .queryLane _ b => payloadFits b
  | .readRecord _ b => payloadFits b
  | .readCounters _ b => payloadFits b
  | .counterControl _ b => payloadFits b
  | .unknownCommand _ code b => !knownCodes.contains code && payloadFits b
  | .frameLengthError _ len => decide (Config.maxPayload < len.toNat)
  | .csnFall _ => true
  | .csnRise _ => true
  | .srstnAssertion _ => true
  | .resetStepPool _ => true
  | .resetStepLanes _ => true
  | .resetStepRing _ => true
  | .resetStepSockets _ => true
  | .resetStepPort _ => true
  | .resetStepRequestIds _ => true
  | .srstnRelease _ => true
  | .deviceReset => true
  | .deviceResetEnd => true
  | .presentChange _ _ => true
  | .riseAccepted _ => true
  | .fallAccepted _ => true
  | .supplyFault _ _ => true
  | .poweredForIncrease _ => true
  | .motionAssertion => true
  | .motionFall => true
  | .quietTimerExpiry => true
  | .cutoffAssertion => true
  | .cutoffDeassertion => true
  | .rmlWriteComplete => true
  | .rmlReadIncrementComplete words => decide (words.length = 6)
  | .lockRise _ => true
  | .lockFall _ => true
  | .lockTimerExpiry _ => true
  | .settleTimerExpiry _ => true
  | .calibrationCompletion _ v => levelsProper v
  | .relockTimerExpiry _ => true
  | .countedSegmentCompletion _ _ => true
  | .settleCompletion _ => true
  | .efcSettleExpiry _ => true
  | .runTimerExpiry _ => true
  | .etuInputTransition _ _ _ => true
  | .filterWidthExpiry _ => true
  | .edgeTimeout _ => true
  | .answerShiftedOut _ => true

end Sys2Proof
end

