-- ==== Sys2Proof/Decode.lean ====
section
/-!
DEFINITION. Reading a command from the bytes of a frame, by the command table of 10_station_ports.md, and the
frame of each command. The opcode table gives its rows no bits, so `decodeTableWord` spells no command.
-/
namespace Sys2Proof

/-- The opcode table gives no row any bits: a word of table bits spells no command. -/
def decodeTableWord (_nbits _w : Nat) : Option Instr := none

/-- The command a complete frame stands for (the command table; R176 for a code that names no command). -/
def commandOfFrame (p : StationId) (code : Byte) (payload : List Byte) : Instr :=
  match code.toNat with
  | 0x01 => .getStatus p payload
  | 0x02 => .ackNotices p payload
  | 0x03 => .setPortMode p payload
  | 0x04 => .stationReset p payload
  | 0x10 => .claimSocket p payload
  | 0x11 => .releaseSocket p payload
  | 0x12 => if settingIsOff payload then .powerSocketOff p payload else .powerSocketOn p payload
  | 0x13 => .setEfc p payload
  | 0x14 => .querySocket p payload
  | 0x15 => .setQuietTime p payload
  | 0x20 => .writeMask p payload
  | 0x21 => .eraseMask p payload
  | 0x22 => .readMask p payload
  | 0x30 => .tunePair p payload
  | 0x31 => .queryPair p payload
  | 0x40 => .submit p payload
  | 0x41 => .cancel p payload
  | 0x42 => .queryRequest p payload
  | 0x50 => .queryLane p payload
  | 0x60 => .readRecord p payload
  | 0x70 => .readCounters p payload
  | 0x71 => .counterControl p payload
  | _ => .unknownCommand p code payload

/-- The command that the bytes received on a port complete: byte 0 the code, byte 1 the payload length, then
as many payload bytes (R174). A length above 120 is the length error of R175 as soon as it is received. None
while the frame is incomplete. Bytes after a complete frame are not taken (R174). -/
def commandOfBytes (p : StationId) : List Byte → Option Instr
  | code :: len :: rest =>
    if Config.maxPayload < len.toNat then some (.frameLengthError p len)
    else if rest.length < len.toNat then none
    else some (commandOfFrame p code (rest.take len.toNat))
  | _ => none

/-- The fixed payload length of a command, as the command table gives it; none for WRITE MASK, whose length the mask
table checks, for an unknown code, and for events. -/
def payloadLength : Instr → Option Nat
  | .getStatus _ _ => some 0
  | .ackNotices _ _ => some 1
  | .setPortMode _ _ => some 2
  | .stationReset _ _ => some 0
  | .claimSocket _ _ => some 1
  | .releaseSocket _ _ => some 1
  | .powerSocketOn _ _ => some 2
  | .powerSocketOff _ _ => some 2
  | .setEfc _ _ => some 3
  | .querySocket _ _ => some 1
  | .setQuietTime _ _ => some 1
  | .eraseMask _ _ => some 1
  | .readMask _ _ => some 1
  | .tunePair _ _ => some 5
  | .queryPair _ _ => some 1
  | .submit _ _ => some 5
  | .cancel _ _ => some 2
  | .queryRequest _ _ => some 3
  | .queryLane _ _ => some 1
  | .readRecord _ _ => some 0
  | .readCounters _ _ => some 2
  | .counterControl _ _ => some 2
  | _ => none

/-- The code and payload of the frame a command stands for; none for events. -/
def frameOf : Instr → Option (Byte × List Byte)
  | .getStatus _ b => some (0x01, b)
  | .ackNotices _ b => some (0x02, b)
  | .setPortMode _ b => some (0x03, b)
  | .stationReset _ b => some (0x04, b)
  | .claimSocket _ b => some (0x10, b)
  | .releaseSocket _ b => some (0x11, b)
  | .powerSocketOn _ b => some (0x12, b)
  | .powerSocketOff _ b => some (0x12, b)
  | .setEfc _ b => some (0x13, b)
  | .querySocket _ b => some (0x14, b)
  | .setQuietTime _ b => some (0x15, b)
  | .writeMask _ b => some (0x20, b)
  | .eraseMask _ b => some (0x21, b)
  | .readMask _ b => some (0x22, b)
  | .tunePair _ b => some (0x30, b)
  | .queryPair _ b => some (0x31, b)
  | .submit _ b => some (0x40, b)
  | .cancel _ b => some (0x41, b)
  | .queryRequest _ b => some (0x42, b)
  | .queryLane _ b => some (0x50, b)
  | .readRecord _ b => some (0x60, b)
  | .readCounters _ b => some (0x70, b)
  | .counterControl _ b => some (0x71, b)
  | .unknownCommand _ code b => some (code, b)
  | _ => none

/-- The bytes of a command's frame: code, payload length, payload (The transaction). -/
def frameBytes (c : Instr) : Option (List Byte) :=
  (frameOf c).map fun (code, payload) => code :: BitVec.ofNat 8 payload.length :: payload

/-- The port a frame of this command arrives on; none for events. -/
def portOf : Instr → Option StationId
  | .getStatus p _ => some p
  | .ackNotices p _ => some p
  | .setPortMode p _ => some p
  | .stationReset p _ => some p
  | .claimSocket p _ => some p
  | .releaseSocket p _ => some p
  | .powerSocketOn p _ => some p
  | .powerSocketOff p _ => some p
  | .setEfc p _ => some p
  | .querySocket p _ => some p
  | .setQuietTime p _ => some p
  | .writeMask p _ => some p
  | .eraseMask p _ => some p
  | .readMask p _ => some p
  | .tunePair p _ => some p
  | .queryPair p _ => some p
  | .submit p _ => some p
  | .cancel p _ => some p
  | .queryRequest p _ => some p
  | .queryLane p _ => some p
  | .readRecord p _ => some p
  | .readCounters p _ => some p
  | .counterControl p _ => some p
  | .unknownCommand p _ _ => some p
  | _ => none

end Sys2Proof
end

