-- ==== Sys2Proof/Machine/State.lean ====
section
/-!
DEFINITION. The state of the DQ-416: everything the spec gives its blocks, as plain data, and its value right
after a device reset. INVENTORY.md lists every field with its rule and reset value. Timers hold the time at which
they end, in ticks of the timebase since the end of the device reset (assumption log 2); a timer that is not
running is `none`.
-/
namespace Sys2Proof.Machine

/-! ## Masks -/

/-- The motion policy of a mask (R28). -/
inductive MotionPolicy where
  | abort | repeatWork | wait
  deriving DecidableEq, Repr

/-- The edge mode of a mask (R28). -/
inductive EdgeMode where
  | rising | falling | both
  deriving DecidableEq, Repr

/-- The jitter part of a mask (R29); the period count N_j is 2 to the exponent. -/
structure JitterPart where
  periodsExp : Nat
  rmsLimit : Nat
  ppLimit : Nat
  glitchLimit : Nat
  deriving DecidableEq, Repr

/-- One band of a band part: its decades and its limit L in tenths of dBc/Hz (R30). -/
structure Band where
  first : Nat
  last : Nat
  limit : Int
  deriving DecidableEq, Repr

/-- The band part of a mask (R30). -/
structure BandPart where
  minRound : Nat
  maxRound : Nat
  guard : Nat
  margin : Nat
  bands : List Band
  deriving DecidableEq, Repr

/-- The pull part of a mask (R32). -/
structure PullPart where
  efcLow : Nat
  efcHigh : Nat
  settleMs : Nat
  minPull : Nat
  deriving DecidableEq, Repr

/-- The contents of a DEFINED mask: header (R28) and optional parts. -/
structure Mask where
  nominal : Nat
  tolerance : Nat
  warmUp : Nat
  runLimit : Nat
  policy : MotionPolicy
  retryLimit : Nat
  preemptible : Bool
  failFast : Bool
  copySet : StationSet
  edgeMode : EdgeMode
  glitchSetting : Nat
  periodsExp : Nat
  jitter : Option JitterPart
  band : Option BandPart
  pull : Option PullPart
  deriving DecidableEq, Repr

/-- An entry of the mask table (R27): EMPTY while `contents` is none, DEFINED otherwise. -/
structure MaskEntry where
  contents : Option Mask
  version : BitVec 8
  refCount : Nat
  deriving DecidableEq, Repr

/-- A mask entry at device reset (R27). -/
def MaskEntry.reset : MaskEntry := ⟨none, 0, 0⟩

/-! ## Requests -/

/-- The request kinds (R3). -/
inductive Kind where
  | measure | frequencyCheck | pullCheck
  deriving DecidableEq, Repr

/-- The request classes (R3, R85). -/
inductive RequestClass where
  | standard | express
  deriving DecidableEq, Repr

/-- A request of the pool (R85). The class follows from the kind, the wait reasons from the present state. -/
structure Request where
  id : RequestId
  station : StationId
  kind : Kind
  socket : SocketId
  loadGen : Word16
  mask : MaskId
  seq : BitVec 32
  band : Bool
  size : Nat
  deriving DecidableEq, Repr

/-- The name of a request (R88). -/
def Request.ref (q : Request) : RequestRef := ⟨q.station, q.id⟩

/-- The request pool and its arbiter (R85). `requests` is in submit order. -/
structure Pool where
  requests : List Request
  nextSeq : BitVec 32
  lastGranted : StationId
  deriving DecidableEq, Repr

/-- The pool at device reset (R85). -/
def Pool.reset : Pool := ⟨[], 0, 3⟩

/-! ## Runs -/

/-- The stages of a run (R3). -/
inductive Stage where
  | frequency | jitter | correlation | pullLow | pullHigh
  deriving DecidableEq, Repr

/-- The state of a band in a run (R1, R14, R15). -/
inductive BandState where
  | undecided | pass | fail | marginal | unreached
  deriving DecidableEq, Repr

/-- The endings of a run (R2). -/
inductive Ending where
  | completed | aborted | timeout | disturbed | noSignal | offFrequency
  deriving DecidableEq, Repr

/-- The abort causes (R21). -/
inductive AbortCause where
  | cancelled | removed | supply | cutoff | pairFault | stationReset
  deriving DecidableEq, Repr

/-- The verdicts (R23). -/
inductive Verdict where
  | pass | fail | marginal | unreached | offFrequency | noSignal | disturbed | timeout | aborted
  deriving DecidableEq, Repr

/-- The fail set (R19): one flag per member. -/
structure FailSet where
  band : Bool
  jitterRms : Bool
  jitterPp : Bool
  glitch : Bool
  pull : Bool
  deriving DecidableEq, Repr

/-- The empty fail set. -/
def FailSet.empty : FailSet := ⟨false, false, false, false, false⟩

/-- The disturbance set (R20): one flag per member. -/
structure DisturbanceSet where
  motion : Bool
  retried : Bool
  waited : Bool
  unlock : Bool
  preempted : Bool
  deriving DecidableEq, Repr

/-- The empty disturbance set. -/
def DisturbanceSet.empty : DisturbanceSet := ⟨false, false, false, false, false⟩

/-- What a run holds for one band of its mask: the band itself, its state, last estimate and last floor (R1). -/
structure BandRun where
  band : Band
  state : BandState
  estimate : Option Int
  floor : Option Int
  deriving DecidableEq, Repr

/-- The results a completed JITTER stage gives besides the glitch count and the duty cycle (R7). -/
structure JitterResult where
  rms : Nat
  pp : Nat
  deriving DecidableEq, Repr

/-- A run context: the method fields of R1 and the four parts the lane keeps (R106). -/
structure RunContext where
  /-- The request fields copied at dispatch. -/
  request : Request
  /-- The contents of the mask the run names, which cannot change while it exists (R38). -/
  mask : Mask
  plan : List Stage
  stage : Stage
  counted : Nat
  rounds : Nat
  bands : List BandRun
  /-- The accumulated cross-spectrum of each decade, the sum over the counted segments; the running average is this
  over `counted` (R1, R11). Zero before the first counted segment, and in the decades that are not measured. -/
  spectrum : Vector CrossSpectrum 8
  frequency : Option Int
  jitter : Option JitterResult
  glitches : Nat
  duty : Option Nat
  /-- PULL LOW's span and period count, held for the pull computation (R145). -/
  pullLow : Option (Nat × Nat)
  pull : Option Nat
  retries : Nat
  fails : FailSet
  disturbances : DisturbanceSet
  cause : Option AbortCause
  ending : Option Ending
  /-- Run timer: ticks counted before `since`. -/
  elapsed : Nat
  /-- Run timer: the time since which it runs; none while paused. -/
  since : Option Nat
  /-- The attached pair, from dispatch to the run end. -/
  pair : Option PairId
  /-- The rings in which the run holds a reservation. -/
  refs : StationSet
  skipped : StationSet
  deriving DecidableEq, Repr

/-! ## Sockets and handler lines -/

/-- Accepted presence (R43). -/
inductive Presence where
  | absent | present
  deriving DecidableEq, Repr

/-- Supply states (R43, R49). -/
inductive Supply where
  | off | on | fault
  deriving DecidableEq, Repr

/-- Engagements (R43, R56). -/
inductive Engagement where
  | idle | queued | running | suspended
  deriving DecidableEq, Repr

/-- A socket entry (R43). -/
structure Socket where
  presence : Presence
  /-- IDLE is none; PENDING holds the time at which the interval ends. -/
  debounce : Option Nat
  loadGen : Word16
  rose : Bool
  fell : Bool
  owner : Option StationId
  supply : Supply
  /-- 0 to 65535 s; the count stops there (R53). -/
  poweredFor : Nat
  /-- The time at which the present full second of supply ON ends (R53). -/
  secondEnd : Nat
  efcCode : BitVec 12
  efcOutput : BitVec 12
  engagement : Engagement
  request : Option RequestRef
  lane : Option LaneId
  deriving DecidableEq, Repr

/-- A socket entry at device reset, with the debounce the level of its PRESENT input gives it (R43, R44). -/
def Socket.reset (present : Bool) : Socket where
  presence := .absent
  debounce := if present then some Config.riseDebounce else none
  loadGen := 0
  rose := false
  fell := false
  owner := none
  supply := .off
  poweredFor := 0
  secondEnd := 0
  efcCode := 0
  efcOutput := 0
  engagement := .idle
  request := none
  lane := none

/-- The levels of the inputs of the part, true for high. -/
structure Lines where
  present : Vector Bool 16
  sfault : Vector Bool 16
  /-- The oscillator output of each socket, as the input matrix would route it to a lane. -/
  signal : Vector Bool 16
  motion : Bool
  cutoff : Bool
  lock : Vector Bool 4
  srstn : Vector Bool 4
  /-- The chip selects of the ports, active low. -/
  csn : Vector Bool 4
  deriving DecidableEq, Repr

/-- The input levels State.reset stands on: no part loaded, no fault, no motion, no cutoff, no lock, no station
reset input held, no port selected (assumption log 4). -/
def Lines.quietLine : Lines where
  present := Vector.replicate 16 false
  sfault := Vector.replicate 16 false
  signal := Vector.replicate 16 false
  motion := false
  cutoff := false
  lock := Vector.replicate 4 false
  srstn := Vector.replicate 4 true
  csn := Vector.replicate 4 true

/-- The line monitor (R60). -/
structure LineMonitor where
  motion : Bool
  quietTimer : Option Nat
  quietTime : Byte
  quiet : Bool
  cutoff : Bool
  deriving DecidableEq, Repr

/-- The line monitor at device reset: motion and cutoff take the levels of their inputs (R60). -/
def LineMonitor.reset (l : Lines) : LineMonitor := ⟨l.motion, none, 20, !l.motion, l.cutoff⟩

/-! ## Reference pairs and the link -/

/-- Pair states (R66). -/
inductive PairState where
  | off | programming | locking | settling | calibrating | ready | relocking | fault
  deriving DecidableEq, Repr

/-- The frequency ranges (R67). -/
inductive FreqRange where
  | range1 | range2 | range3
  deriving DecidableEq, Repr

/-- Last failures of a pair (R66). -/
inductive PairFailure where
  | none | readback | lockTimeout | relockTimeout
  deriving DecidableEq, Repr

/-- A link transaction (R70, R71): a write of one word, or a read-increment of `count` words from `index`. -/
inductive LinkTransaction where
  | write (addr : SynthAddr) (index : Nat) (word : Word16)
  | readIncrement (addr : SynthAddr) (index : Nat) (count : Nat)
  deriving DecidableEq, Repr

/-- A reference pair and its engine (R66). -/
structure Pair where
  state : PairState
  tuned : Option Nat
  range : Option FreqRange
  attempts : Nat
  firstLock : Bool
  calibrated : Bool
  lastReadyRange : Option FreqRange
  attachments : Nat
  floors : Vector Int 8
  lastFailure : PairFailure
  tunings : Word16
  calibrations : BitVec 8
  queue : List LinkTransaction
  lockTimer : Option Nat
  settleTimer : Option Nat
  relockTimer : Option Nat
  /-- A calibration is in progress; its length is not fixed (R76). -/
  calibrating : Bool
  deriving DecidableEq, Repr

/-- A pair at device reset (R66). -/
def Pair.reset : Pair where
  state := .off
  tuned := none
  range := none
  attempts := 0
  firstLock := true
  calibrated := false
  lastReadyRange := none
  attachments := 0
  floors := Vector.replicate 8 (-1000)
  lastFailure := .none
  tunings := 0
  calibrations := 0
  queue := []
  lockTimer := none
  settleTimer := none
  relockTimer := none
  calibrating := false

/-- The Reference Management Link arbiter (R72). -/
structure Link where
  current : Option (PairId × LinkTransaction)
  pointer : PairId
  deriving DecidableEq, Repr

/-- The link arbiter at device reset (R72). -/
def Link.reset : Link := ⟨none, 0⟩

/-! ## Edge Timing Units -/

/-- States of an Edge Timing Unit (R133). -/
inductive EtuState where
  | stopped | opening | counting
  deriving DecidableEq, Repr

/-- The stage setting a lane hands its unit (R133). -/
structure EtuSetting where
  mode : EdgeMode
  /-- Filter width in ticks. -/
  width : Nat
  /-- Period count N. -/
  periods : Nat
  stage : Stage
  deriving DecidableEq, Repr

/-- A timestamped edge. -/
structure Edge where
  rising : Bool
  stamp : Stamp
  deriving DecidableEq, Repr

/-- A pending transition: its timestamp and the time at which the filter width ends (R134). -/
structure Qualification where
  stamp : Stamp
  endsAt : Nat
  deriving DecidableEq, Repr

/-- Period statistics (R138); the shortest and longest sample are none before the first. -/
structure PeriodStats where
  span : Nat
  squares : Nat
  shortest : Option Nat
  longest : Option Nat
  high : Nat
  deriving DecidableEq, Repr

/-- Cleared statistics. -/
def PeriodStats.cleared : PeriodStats := ⟨0, 0, none, none, 0⟩

/-- An Edge Timing Unit (R133). The head of the history is capture, then previous, then before-previous. -/
structure Etu where
  state : EtuState
  setting : Option EtuSetting
  filtered : Bool
  qualification : Option Qualification
  history : List Edge
  periods : Nat
  stats : PeriodStats
  glitches : Nat
  timeout : Option Nat
  deriving DecidableEq, Repr

/-- An Edge Timing Unit at device reset (R133). -/
def Etu.reset : Etu := ⟨.stopped, none, false, none, [], 0, PeriodStats.cleared, 0, none⟩

/-! ## Lanes -/

/-- Lane states (R106, R107). -/
inductive LaneState where
  | idle | edge | settle | correlate | held
  deriving DecidableEq, Repr

/-- What a lane will start when its holds clear (R106). -/
inductive PendingStart where
  | none | edgeStage | settle | countedSegment
  deriving DecidableEq, Repr

/-- A lane with its Edge Timing Unit (R106). -/
structure Lane where
  state : LaneState
  holdQuiet : Bool
  holdPair : Bool
  pending : PendingStart
  connected : Option SocketId
  active : Option RunContext
  slot : Option RunContext
  mark : Option RequestRef
  interval : Option Nat
  etu : Etu
  deriving DecidableEq, Repr

/-- A lane at device reset (R106). -/
def Lane.reset : Lane :=
  ⟨.idle, false, false, .none, none, none, none, none, none, Etu.reset⟩

/-! ## Result rings -/

/-- Roles of a ring entry (R148). -/
inductive Role where
  | original | copy
  deriving DecidableEq, Repr

/-- The descriptor of a ring entry (R161); the copy flag is the entry's role. -/
structure Descriptor where
  kind : Kind
  owner : StationId
  id : RequestId
  socket : SocketId
  loadGen : Word16
  mask : MaskId
  version : BitVec 8
  pair : Option PairId
  bands : List Band
  deriving DecidableEq, Repr

/-- One band entry of a record (R164). -/
structure BandEntry where
  state : BandState
  estimate : Option Int
  floor : Option Int
  deriving DecidableEq, Repr

/-- The record words of a verdict record, by field (R162). -/
structure Record where
  verdict : Verdict
  cause : Option AbortCause
  rounds : Nat
  retries : Nat
  fails : FailSet
  disturbances : DisturbanceSet
  skipped : StationSet
  counted : Nat
  runTime : Nat
  frequency : Option Int
  pull : Option Nat
  jitter : Option JitterResult
  glitches : Nat
  duty : Option Nat
  bands : List BandEntry
  deriving DecidableEq, Repr

/-- A ring entry (R148): RESERVED while `record` is none, COMMITTED otherwise. -/
structure RingEntry where
  run : RequestRef
  role : Role
  size : Nat
  descriptor : Descriptor
  record : Option Record
  deriving DecidableEq, Repr

/-- A result ring: its entries, oldest first (R147). -/
structure Ring where
  entries : List RingEntry
  deriving DecidableEq, Repr

/-- A ring at device reset (R147). -/
def Ring.reset : Ring := ⟨[]⟩

/-! ## Yield counters -/

/-- Crossings of a count (R169). -/
inductive Crossing where
  | half | full
  deriving DecidableEq, Repr

/-- The last-crossing record (R165). -/
structure LastCrossing where
  socket : SocketId
  index : Fin 6
  crossing : Crossing
  deriving DecidableEq, Repr

/-- The counter block (R165); `saturate` is the overflow mode, ROLL when false. -/
structure Counters where
  counts : Vector (Vector Word16 6) 16
  freeze : Bool
  saturate : Bool
  resetOnRead : Bool
  last : Option LastCrossing
  deriving DecidableEq, Repr

/-- The counter block at device reset (R165). -/
def Counters.reset : Counters :=
  ⟨Vector.replicate 16 (Vector.replicate 6 0), false, false, false, none⟩

/-! ## Station ports -/

/-- Clear modes (R173). -/
inductive ClearMode where
  | onRead | onAck
  deriving DecidableEq, Repr

/-- A set of the six notices (R173, R177). -/
structure Notices where
  record : Bool
  socket : Bool
  pair : Bool
  cutoff : Bool
  counter : Bool
  reset : Bool
  deriving DecidableEq, Repr

/-- A set of the five latched notices (R173). -/
structure Latched where
  socket : Bool
  pair : Bool
  cutoff : Bool
  counter : Bool
  reset : Bool
  deriving DecidableEq, Repr

/-- No latched notice. -/
def Latched.empty : Latched := ⟨false, false, false, false, false⟩

/-- Transaction states (R173). -/
inductive Transaction where
  | idle | receiving | answering | discarding
  deriving DecidableEq, Repr

/-- Reset states of a port (R173). -/
inductive PortReset where
  | running | resetting | held
  deriving DecidableEq, Repr

/-- Status codes (10_station_ports.md, Status codes). -/
inductive Status where
  | ok | busy | notOwner | owned | stale | absent | inUse | full | range | cutoff | noSuch | empty | frame | unknown
  deriving DecidableEq, Repr

/-- An answer frame: status and payload. -/
structure Answer where
  status : Status
  payload : List Byte
  deriving DecidableEq, Repr

/-- The six steps of a station reset (R184). -/
inductive ResetStep where
  | pool | lanes | ring | sockets | port | requestIds
  deriving DecidableEq, Repr

/-- Where a station reset in progress stands, and the counts its answer reports (R184, R185). -/
structure ResetProgress where
  next : ResetStep
  requests : Nat
  runs : Nat
  sockets : Nat
  entries : Nat
  copies : Nat
  deriving DecidableEq, Repr

/-- A station reset before its first step. -/
def ResetProgress.start : ResetProgress := ⟨.pool, 0, 0, 0, 0, 0⟩

/-- A low of SRSTN whose 1 µs is not over: when it is, and whether the low began while the port was RUNNING (R183). -/
structure ResetLow where
  endsAt : Nat
  fromRunning : Bool
  deriving DecidableEq, Repr

/-- A station port (R173). The RECORD notice follows the ring and is read from it. -/
structure Port where
  clearMode : ClearMode
  strict : Bool
  enable : Notices
  latched : Latched
  nextId : RequestId
  transaction : Transaction
  /-- The answer being shifted out; none in ANSWERING while a STATION RESET is not done (R183). -/
  answer : Option Answer
  resetState : PortReset
  progress : ResetProgress
  /-- The low of SRSTN that is being timed, if there is one (R183). -/
  resetLow : Option ResetLow
  deriving DecidableEq, Repr

/-- All six notices, the default attention enable set (R173). -/
def Notices.all : Notices := ⟨true, true, true, true, true, true⟩

/-- A port at device reset: HELD while its SRSTN is low, RUNNING otherwise (R173, R186). -/
def Port.reset (srstn : Bool) : Port where
  clearMode := .onRead
  strict := false
  enable := Notices.all
  latched := { Latched.empty with reset := true }
  nextId := 0
  transaction := .idle
  answer := none
  resetState := if srstn then .running else .held
  progress := ResetProgress.start
  resetLow := none

/-! ## The machine -/

/-- The state of the DQ-416 and the queue of commands and events waiting to be taken. -/
structure State where
  /-- Ticks of 0.5 ps since the end of the device reset; the timestamp counter is its low 56 bits (R132). -/
  now : Nat
  /-- A device reset is in progress (R186). -/
  inReset : Bool
  lines : Lines
  sockets : Vector Socket 16
  monitor : LineMonitor
  masks : Vector MaskEntry 24
  pool : Pool
  /-- The planner's retune record for each pair (R105). -/
  retune : Vector (Option RequestRef) 2
  pairs : Vector Pair 2
  link : Link
  lanes : Vector Lane 4
  rings : Vector Ring 4
  counters : Counters
  ports : Vector Port 4
  pending : List Instr
  deriving DecidableEq, Repr

/-- Why the machine stops. The spec names no condition that stops the DQ-416: every command is answered and every
event is taken or finds nothing to act on. No constructor, so no step faults. -/
inductive Fault where
  deriving DecidableEq, Repr

/-- Why a step gives no meaning. -/
inductive Refusal where
  /-- Raised by an arm of `exec` whose command has no meaning yet; no arm does. Safe: nothing is claimed of it. -/
  | notModelled (mnemonic : String)
  deriving DecidableEq, Repr

/-- Every block at its device reset value, for given input levels (R27, R43, R60, R66, R72, R85, R106, R133,
R147, R165, R173). -/
def State.ofReset (lines : Lines) (pending : List Instr) : State where
  now := 0
  inReset := false
  lines := lines
  sockets := Vector.ofFn fun k => Socket.reset lines.present[k]
  monitor := LineMonitor.reset lines
  masks := Vector.replicate 24 MaskEntry.reset
  pool := Pool.reset
  retune := Vector.replicate 2 none
  pairs := Vector.replicate 2 Pair.reset
  link := Link.reset
  lanes := Vector.replicate 4 Lane.reset
  rings := Vector.replicate 4 Ring.reset
  counters := Counters.reset
  ports := Vector.ofFn fun n => Port.reset lines.srstn[n]
  pending := pending

/-- The machine right after a device reset (R186), with its inputs at rest and nothing pending. -/
def State.reset : State := State.ofReset Lines.quietLine []

end Sys2Proof.Machine
end

