-- ==== Sys2Proof/Machine/Operands.lean ====
section
/-!
DEFINITION. Reading operands out of payload bytes, writing numbers as payload bytes, and the rounding the rules
share (00_scope.md, Words and bytes; R141).
-/
namespace Sys2Proof.Machine

/-! ## Bytes -/

/-- Byte i of a payload; 0 past its end. Callers check the length first (R175). -/
def byteAt (b : List Byte) (i : Nat) : Byte := b.getD i 0

/-- The one-byte field at i. -/
def field8 (b : List Byte) (i : Nat) : Nat := (byteAt b i).toNat

/-- The two-byte field at i, least significant byte first. -/
def field16 (b : List Byte) (i : Nat) : Nat := field8 b i + 256 * field8 b (i + 1)

/-- The four-byte field at i, least significant byte first. -/
def field32 (b : List Byte) (i : Nat) : Nat := field16 b i + 65536 * field16 b (i + 2)

/-- The signed two-byte field at i. -/
def fieldSigned16 (b : List Byte) (i : Nat) : Int :=
  if field16 b i < 32768 then (field16 b i : Int) else (field16 b i : Int) - 65536

/-- A number as one byte. -/
def bytes8 (n : Nat) : List Byte := [BitVec.ofNat 8 n]

/-- A number as two bytes, least significant first. -/
def bytes16 (n : Nat) : List Byte := [BitVec.ofNat 8 n, BitVec.ofNat 8 (n / 256)]

/-- A number as four bytes, least significant first. -/
def bytes32 (n : Nat) : List Byte := bytes16 n ++ bytes16 (n / 65536)

/-- A signed number as its 16-bit two's complement pattern. -/
def pattern16 (z : Int) : Nat := (z % 65536).toNat

/-- A signed number as its 32-bit two's complement pattern. -/
def pattern32 (z : Int) : Nat := (z % 4294967296).toNat

/-- Flags as a byte, the first in bit 0. -/
def bitsOf (flags : List Bool) : Nat := flags.foldr (fun f n => f.toNat + 2 * n) 0

/-- Bit i of a number. -/
def bitOf (n i : Nat) : Bool := decide (n / 2 ^ i % 2 = 1)

/-! ## Numbers that name things -/

/-- The socket a byte names, if it is one of 0 to 15. -/
def socketOf (n : Nat) : Option SocketId := if h : n < 16 then some ⟨n, h⟩ else none

/-- The mask a byte names, if it is one of 0 to 23. -/
def maskOf (n : Nat) : Option MaskId := if h : n < 24 then some ⟨n, h⟩ else none

/-- The pair a byte names. -/
def pairOf (n : Nat) : Option PairId := if h : n < 2 then some ⟨n, h⟩ else none

/-- The lane a byte names. -/
def laneOf (n : Nat) : Option LaneId := if h : n < 4 then some ⟨n, h⟩ else none

/-- The station a byte names. -/
def stationOf (n : Nat) : Option StationId := if h : n < 4 then some ⟨n, h⟩ else none

/-- The request kind a byte names (R89). -/
def kindOf : Nat → Option Kind
  | 0 => some .measure
  | 1 => some .frequencyCheck
  | 2 => some .pullCheck
  | _ => none

/-- All stations, in ascending order. -/
def allStations : List StationId := [0, 1, 2, 3]

/-- All lanes, in ascending order. -/
def allLanes : List LaneId := [0, 1, 2, 3]

/-- Both pairs. -/
def allPairs : List PairId := [0, 1]

/-- All sockets, in ascending order. -/
def allSockets : List SocketId := [0, 1, 2, 3, 4, 5, 6, 7, 8, 9, 10, 11, 12, 13, 14, 15]

/-- The eight offset decades. -/
def allDecades : List (Fin 8) := [0, 1, 2, 3, 4, 5, 6, 7]

/-! ## Rounding -/

/-- `num / den` rounded to the nearest integer, halves away from zero (R141). -/
def roundDiv (num : Int) (den : Nat) : Int :=
  if num < 0 then -(((2 * num.natAbs + den) / (2 * den) : Nat) : Int)
  else (((2 * num.natAbs + den) / (2 * den) : Nat) : Int)

/-- A value beyond the range is reported as the nearer end of it (R141). -/
def holdInt (lo hi z : Int) : Int := if z < lo then lo else if hi < z then hi else z

/-- A magnitude above the range is reported as the end of it. -/
def holdNat (hi n : Nat) : Nat := if hi < n then hi else n

/-- A measured level in tenths of dBc/Hz, rounded (R11, R76). -/
def tenths (v : Level) : Int := roundDiv v.num v.den

/-- Tries the bits below `bit`, from the highest down, each kept if `fits` holds of the number it makes: the largest
number below 2^bit that fits, where `fits` holds of 0 and of every number below one it holds of. -/
def largestBits (fits : Nat → Bool) : Nat → Nat → Nat
  | 0, r => r
  | bit + 1, r => if fits (r + 2 ^ bit) then largestBits fits bit (r + 2 ^ bit) else largestBits fits bit r

/-- Digit-by-digit square root: tries the bits below `bit`, from the highest down. -/
def sqrtBits : Nat → Nat → Nat → Nat
  | 0, r, _ => r
  | bit + 1, r, x =>
    if (r + 2 ^ bit) * (r + 2 ^ bit) ≤ x then sqrtBits bit (r + 2 ^ bit) x else sqrtBits bit r x

/-- The largest number whose square is at most x. -/
def intSqrt (x : Nat) : Nat := sqrtBits (x.log2 / 2 + 1) 0 x

end Sys2Proof.Machine
end

