-- ==== Sys2Proof/Machine/MaskLayout.lean ====
section
/-!
DEFINITION. The mask frame layout (02_masks.md, The mask frame layout), the validation of R34 and the body READ
MASK returns.
-/
namespace Sys2Proof.Machine

/-- A decade is valid for a nominal frequency when 4·10^d Hz is less than it (R31, R67). -/
def decadeValid (nominal d : Nat) : Bool := decide (4 * 10 ^ d < nominal)

/-- The motion policy a byte codes; bytes above 2 fail field 8 and are not stored. -/
def policyOf : Nat → MotionPolicy
  | 0 => .abort
  | 1 => .repeatWork
  | _ => .wait

/-- The byte of a motion policy. -/
def MotionPolicy.code : MotionPolicy → Nat
  | .abort => 0
  | .repeatWork => 1
  | .wait => 2

/-- The edge mode a byte codes; bytes above 2 fail field 11 and are not stored. -/
def edgeModeOf : Nat → EdgeMode
  | 0 => .rising
  | 1 => .falling
  | _ => .both

/-- The byte of an edge mode. -/
def EdgeMode.code : EdgeMode → Nat
  | .rising => 0
  | .falling => 1
  | .both => 2

/-- The station set a byte codes in bits 0 to 3. -/
def stationSetOf (n : Nat) : StationSet := Vector.ofFn fun i => bitOf n i.val

/-- The bits of a station set. -/
def stationBits (set : StationSet) : Nat := bitsOf [set[0], set[1], set[2], set[3]]

/-- Bit i of the parts-present byte, byte 17. -/
def partPresent (b : List Byte) (i : Nat) : Bool := bitOf (field8 b 17) i

/-- Where the band part starts in a WRITE MASK payload. -/
def bandOffset (b : List Byte) : Nat := 18 + (if partPresent b 0 then 8 else 0)

/-- The band count byte of a WRITE MASK payload. -/
def bandCount (b : List Byte) : Nat := field8 b (bandOffset b + 4)

/-- Where the pull part starts. -/
def pullOffset (b : List Byte) : Nat :=
  bandOffset b + (if partPresent b 1 then 5 + 4 * bandCount b else 0)

/-- The length the parts-present byte and band count imply (R33, check 5). -/
def impliedLength (b : List Byte) : Nat := pullOffset b + (if partPresent b 2 then 8 else 0)

/-- The n bands that start at offset i. -/
def bandsAt (b : List Byte) : Nat → Nat → List Band
  | 0, _ => []
  | n + 1, i => ⟨field8 b i, field8 b (i + 1), fieldSigned16 b (i + 2)⟩ :: bandsAt b n (i + 4)

/-- The mask a WRITE MASK payload carries, read by the mask frame layout. -/
def maskFields (b : List Byte) : Mask where
  nominal := field32 b 1
  tolerance := field8 b 5
  warmUp := field16 b 6
  runLimit := field16 b 8
  policy := policyOf (field8 b 10)
  retryLimit := field8 b 11
  preemptible := bitOf (field8 b 12) 0
  failFast := bitOf (field8 b 12) 1
  copySet := stationSetOf (field8 b 13)
  edgeMode := edgeModeOf (field8 b 14)
  glitchSetting := field8 b 15
  periodsExp := field8 b 16
  jitter :=
    if partPresent b 0 then some ⟨field8 b 18, field16 b 19, field32 b 21, field8 b 25⟩ else none
  band :=
    if partPresent b 1 then
      some ⟨field8 b (bandOffset b), field8 b (bandOffset b + 1), field8 b (bandOffset b + 2),
        field8 b (bandOffset b + 3), bandsAt b (bandCount b) (bandOffset b + 5)⟩
    else none
  pull :=
    if partPresent b 2 then
      some ⟨field16 b (pullOffset b), field16 b (pullOffset b + 2), field16 b (pullOffset b + 4),
        field16 b (pullOffset b + 6)⟩
    else none

/-- One check of R34: whether it fails, the field number, and the band index or 255. -/
structure FieldCheck where
  fails : Bool
  field : Nat
  band : Nat
  deriving DecidableEq, Repr

/-- Checks 21 to 24 for each band in list order; `prev` is the previous band's last decade (R34). -/
def bandChecks (nominal : Nat) : Nat → Option Nat → List Band → List FieldCheck
  | _, _, [] => []
  | i, prev, c :: rest =>
    [⟨decide (7 < c.first) || !decadeValid nominal c.first, 21, i⟩,
     ⟨decide (c.last < c.first) || decide (7 < c.last) || !decadeValid nominal c.last, 22, i⟩,
     ⟨decide (c.limit < -1900) || decide (-600 < c.limit), 23, i⟩,
     ⟨match prev with
      | none => false
      | some l => decide (c.first ≤ l), 24, i⟩] ++
    bandChecks nominal (i + 1) (some c.last) rest

/-- Fields 14 to 16 (R34). -/
def jitterChecks (j : JitterPart) : List FieldCheck :=
  [⟨decide (j.periodsExp < 8) || decide (16 < j.periodsExp), 14, 255⟩,
   ⟨decide (j.rmsLimit = 0), 15, 255⟩,
   ⟨decide (j.ppLimit = 0) || decide (1000000 < j.ppLimit), 16, 255⟩]

/-- Fields 17 to 24 (R34). -/
def bandPartChecks (nominal : Nat) (d : BandPart) : List FieldCheck :=
  [⟨decide (14 < d.minRound), 17, 255⟩,
   ⟨decide (d.maxRound < d.minRound) || decide (14 < d.maxRound), 18, 255⟩,
   ⟨decide (100 < d.guard), 19, 255⟩,
   ⟨decide (200 < d.margin), 20, 255⟩] ++ bandChecks nominal 0 none d.bands

/-- Fields 25 to 28 (R34). -/
def pullChecks (u : PullPart) : List FieldCheck :=
  [⟨decide (4094 < u.efcLow), 25, 255⟩,
   ⟨decide (u.efcHigh ≤ u.efcLow) || decide (4095 < u.efcHigh), 26, 255⟩,
   ⟨decide (u.settleMs < 1) || decide (1000 < u.settleMs), 27, 255⟩,
   ⟨decide (u.minPull < 1) || decide (2000 < u.minPull), 28, 255⟩]

/-- Fields 4 to 13, with the raw bytes of the policy, copy set and edge mode (R34). -/
def headerChecks (m : Mask) (policy copySet edgeMode : Nat) : List FieldCheck :=
  [⟨decide (m.nominal < 1000000) || decide (200000000 < m.nominal), 4, 255⟩,
   ⟨decide (m.tolerance < 1) || decide (200 < m.tolerance), 5, 255⟩,
   ⟨decide (7200 < m.warmUp), 6, 255⟩,
   ⟨decide (m.runLimit < 1) || decide (3600 < m.runLimit), 7, 255⟩,
   ⟨decide (2 < policy), 8, 255⟩,
   ⟨decide (15 < m.retryLimit), 9, 255⟩,
   ⟨decide (15 < copySet), 10, 255⟩,
   ⟨decide (2 < edgeMode), 11, 255⟩,
   ⟨decide (15 < m.glitchSetting) || decide (1000000000 ≤ m.glitchSetting * m.nominal), 12, 255⟩,
   ⟨decide (m.periodsExp < 8) || decide (16 < m.periodsExp), 13, 255⟩]

/-- The checks of the optional parts that are present (R34). -/
def partChecks (m : Mask) : List FieldCheck :=
  (match m.jitter with | none => [] | some j => jitterChecks j) ++
  (match m.band with | none => [] | some d => bandPartChecks m.nominal d) ++
  (match m.pull with | none => [] | some u => pullChecks u)

/-- Fields 4 to 28 of a WRITE MASK payload, in the order of R34. -/
def maskChecks (b : List Byte) : List FieldCheck :=
  headerChecks (maskFields b) (field8 b 10) (field8 b 13) (field8 b 14) ++ partChecks (maskFields b)

/-- A band part holds 1 to 8 bands (R30); the glitch limit is one byte (R29). -/
def Mask.countsFit (m : Mask) : Bool :=
  (match m.band with | none => true | some d => decide (1 ≤ d.bands.length) && decide (d.bands.length ≤ 8)) &&
  (match m.jitter with | none => true | some j => decide (j.glitchLimit ≤ 255))

/-- The contents a DEFINED mask may hold: no field outside the ranges of R28 to R32. -/
def Mask.valid (m : Mask) : Bool :=
  m.countsFit &&
  (headerChecks m m.policy.code (stationBits m.copySet) m.edgeMode.code ++ partChecks m).all fun c => !c.fails

/-- The bytes of one band. -/
def bandBytes (c : Band) : List Byte := bytes8 c.first ++ bytes8 c.last ++ bytes16 (pattern16 c.limit)

/-- The mask body from byte 1 onward, as READ MASK returns it (R36). -/
def maskBody (m : Mask) : List Byte :=
  bytes32 m.nominal ++ bytes8 m.tolerance ++ bytes16 m.warmUp ++ bytes16 m.runLimit ++ bytes8 m.policy.code ++
  bytes8 m.retryLimit ++ bytes8 (bitsOf [m.preemptible, m.failFast]) ++ bytes8 (stationBits m.copySet) ++
  bytes8 m.edgeMode.code ++ bytes8 m.glitchSetting ++ bytes8 m.periodsExp ++
  bytes8 (bitsOf [m.jitter.isSome, m.band.isSome, m.pull.isSome]) ++
  (match m.jitter with
   | none => []
   | some j => bytes8 j.periodsExp ++ bytes16 j.rmsLimit ++ bytes32 j.ppLimit ++ bytes8 j.glitchLimit) ++
  (match m.band with
   | none => []
   | some d => bytes8 d.minRound ++ bytes8 d.maxRound ++ bytes8 d.guard ++ bytes8 d.margin ++
       bytes8 d.bands.length ++ d.bands.flatMap bandBytes) ++
  (match m.pull with
   | none => []
   | some u => bytes16 u.efcLow ++ bytes16 u.efcHigh ++ bytes16 u.settleMs ++ bytes16 u.minPull)

end Sys2Proof.Machine
end

