-- ==== Sys2Proof/Machine/Flags.lean ====
section
/-!
DEFINITION. The coded fields of answers and records: status codes, notice bytes, the sets a run carries, and the
verdict record word layout (10_station_ports.md, Status codes; 08, Verdict record word layout).
-/
namespace Sys2Proof.Machine

/-- The status byte of each code (10_station_ports.md, Status codes). -/
def Status.code : Status → Byte
  | .ok => 0x00
  | .busy => 0x01
  | .notOwner => 0x02
  | .owned => 0x03
  | .stale => 0x04
  | .absent => 0x05
  | .inUse => 0x06
  | .full => 0x07
  | .range => 0x08
  | .cutoff => 0x09
  | .noSuch => 0x0A
  | .empty => 0x0B
  | .frame => 0x0C
  | .unknown => 0x0D

/-- The bytes of an answer frame: status, payload length, payload (The transaction). -/
def Answer.bytes (a : Answer) : List Byte := a.status.code :: bytes8 a.payload.length ++ a.payload

/-! ## Notices -/

/-- The notices as bits of GET STATUS byte 0 (R180). -/
def Notices.bits (n : Notices) : Nat :=
  bitsOf [n.record, n.socket, n.pair, n.cutoff, n.counter, n.reset]

/-- The notice set a byte names (R180 to R182). -/
def noticesOf (b : Nat) : Notices := ⟨bitOf b 0, bitOf b 1, bitOf b 2, bitOf b 3, bitOf b 4, bitOf b 5⟩

/-- A port's six notices, from the level of RECORD and the latched ones. -/
def Latched.withRecord (l : Latched) (record : Bool) : Notices :=
  ⟨record, l.socket, l.pair, l.cutoff, l.counter, l.reset⟩

/-- The two sets have a member in common (R179). -/
def Notices.meets (a b : Notices) : Bool :=
  (a.record && b.record) || (a.socket && b.socket) || (a.pair && b.pair) || (a.cutoff && b.cutoff) ||
  (a.counter && b.counter) || (a.reset && b.reset)

/-- The latched notices less the named ones; RECORD in the names clears nothing (R181). -/
def Latched.without (l : Latched) (named : Notices) : Latched :=
  ⟨l.socket && !named.socket, l.pair && !named.pair, l.cutoff && !named.cutoff, l.counter && !named.counter,
   l.reset && !named.reset⟩

/-! ## Codes of states and kinds -/

/-- Kinds in answers (R96, R131) and, for records, the record kind (R24). -/
def Kind.code : Kind → Nat
  | .measure => 0
  | .frequencyCheck => 1
  | .pullCheck => 2

/-- The class follows the kind (R3). -/
def Kind.requestClass : Kind → RequestClass
  | .measure => .standard
  | .frequencyCheck => .express
  | .pullCheck => .express

/-- Supply states in QUERY SOCKET (R59). -/
def Supply.code : Supply → Nat
  | .off => 0
  | .on => 1
  | .fault => 2

/-- Engagements in QUERY SOCKET (R59). -/
def Engagement.code : Engagement → Nat
  | .idle => 0
  | .queued => 1
  | .running => 2
  | .suspended => 3

/-- Pair states in QUERY PAIR (R82). -/
def PairState.code : PairState → Nat
  | .off => 0
  | .programming => 1
  | .locking => 2
  | .settling => 3
  | .calibrating => 4
  | .ready => 5
  | .relocking => 6
  | .fault => 7

/-- Range codes (R67). -/
def FreqRange.code : FreqRange → Nat
  | .range1 => 1
  | .range2 => 2
  | .range3 => 3

/-- The range byte of QUERY PAIR: 0 for none (R82). -/
def rangeByte : Option FreqRange → Nat
  | none => 0
  | some r => r.code

/-- Last failures in QUERY PAIR (R82). -/
def PairFailure.code : PairFailure → Nat
  | .none => 0
  | .readback => 1
  | .lockTimeout => 2
  | .relockTimeout => 3

/-- Lane states in QUERY LANE (R131). -/
def LaneState.code : LaneState → Nat
  | .idle => 0
  | .edge => 1
  | .settle => 2
  | .correlate => 3
  | .held => 4

/-- Pending starts in QUERY LANE (R131). -/
def PendingStart.code : PendingStart → Nat
  | .none => 0
  | .edgeStage => 1
  | .settle => 2
  | .countedSegment => 3

/-- Stages in QUERY LANE (R131). -/
def Stage.code : Stage → Nat
  | .frequency => 0
  | .jitter => 1
  | .correlation => 2
  | .pullLow => 3
  | .pullHigh => 4

/-- Band states in QUERY LANE and in records (R131; word layout). -/
def BandState.code : BandState → Nat
  | .undecided => 0
  | .pass => 1
  | .fail => 2
  | .marginal => 3
  | .unreached => 4

/-- Verdicts in records (word layout). -/
def Verdict.code : Verdict → Nat
  | .pass => 0
  | .fail => 1
  | .marginal => 2
  | .unreached => 3
  | .offFrequency => 4
  | .noSignal => 5
  | .disturbed => 6
  | .timeout => 7
  | .aborted => 8

/-- Abort causes in records: 7 is absent (word layout, R163). -/
def causeCode : Option AbortCause → Nat
  | some .cancelled => 0
  | some .removed => 1
  | some .supply => 2
  | some .cutoff => 3
  | some .pairFault => 4
  | some .stationReset => 5
  | none => 7

/-- The fail set as bits 0 to 4 (R131). -/
def FailSet.bits (f : FailSet) : Nat := bitsOf [f.band, f.jitterRms, f.jitterPp, f.glitch, f.pull]

/-- The fail set is not empty (R7, R23). -/
def FailSet.any (f : FailSet) : Bool := f.band || f.jitterRms || f.jitterPp || f.glitch || f.pull

/-- The disturbance set as bits 0 to 4 (R131). -/
def DisturbanceSet.bits (d : DisturbanceSet) : Nat := bitsOf [d.motion, d.retried, d.waited, d.unlock, d.preempted]

/-- The yield count index of a verdict's class (R25, R165). -/
def Verdict.yieldIndex : Verdict → Fin 6
  | .pass => 0
  | .fail => 1
  | .marginal => 2
  | .unreached => 3
  | .offFrequency => 4
  | .noSignal => 4
  | .disturbed => 4
  | .timeout => 4
  | .aborted => 4

/-- The yield count index of DISTURBED (R165). -/
def disturbedIndex : Fin 6 := 5

/-! ## The verdict record in words -/

/-- The pair code of a descriptor or answer: a number above every pair stands for none. -/
def pairCode (absent : Nat) : Option PairId → Nat
  | none => absent
  | some p => p.val

/-- A station, socket or lane number, or the answer's pattern for none. -/
def numberOr {n : Nat} (absent : Nat) : Option (Fin n) → Nat
  | none => absent
  | some i => i.val

/-- The two words of a band definition: D4 + 2i and D5 + 2i. -/
def bandDefinitionWords (b : Band) : List Nat := [b.first + 8 * b.last, pattern16 b.limit]

/-- The descriptor in words D0 onward (word layout). -/
def descriptorWords (d : Descriptor) (copy : Bool) : List Nat :=
  [d.id.toNat, d.loadGen.toNat,
   d.socket.val + 16 * d.mask.val + 512 * d.owner.val + 2048 * copy.toNat + 4096 * d.kind.code,
   d.version.toNat + 256 * d.bands.length + 4096 * pairCode 3 d.pair] ++ d.bands.flatMap bandDefinitionWords

/-- The estimate word of a band entry; absent is the most negative value (R163). -/
def estimateWord : Option Int → Nat
  | none => 32768
  | some e => pattern16 e

/-- The magnitude of a floor in thirteen bits; absent is all ones (R163, R164). -/
def floorField : Option Int → Nat
  | none => 8191
  | some f => f.natAbs

/-- The two words of a band entry: W12 + 2i and W13 + 2i. -/
def bandEntryWords (e : BandEntry) : List Nat := [estimateWord e.estimate, e.state.code + 8 * floorField e.floor]

/-- W4 and W5: the pull of a PULL record, the frequency offset of the others (word layout, R163). -/
def resultWords (k : Kind) (r : Record) : List Nat :=
  match k with
  | .pullCheck => [r.pull.getD 65535, 0]
  | _ =>
    let f := match r.frequency with | none => 2147483648 | some z => pattern32 z
    [f % 65536, f / 65536]

/-- A 32-bit field as two words, low word first. -/
def wordPair (n : Nat) : List Nat := [n % 65536, n / 65536]

/-- The record words W0 onward (word layout). -/
def recordWords (k : Kind) (r : Record) : List Nat :=
  [r.verdict.code + 16 * causeCode r.cause + 128 * r.rounds + 2048 * r.retries,
   r.fails.bits + 32 * r.disturbances.bits + 1024 * stationBits r.skipped,
   r.counted, r.runTime] ++ resultWords k r ++
  wordPair (match r.jitter with | none => 4294967295 | some j => j.rms) ++
  wordPair (match r.jitter with | none => 4294967295 | some j => j.pp) ++
  [r.glitches, r.duty.getD 65535] ++ r.bands.flatMap bandEntryWords

/-- The verdict record as READ RECORD delivers it: descriptor, then record words, each word low byte first. -/
def verdictBytes (e : RingEntry) (r : Record) : List Byte :=
  (descriptorWords e.descriptor (decide (e.role = .copy)) ++ recordWords e.descriptor.kind r).flatMap bytes16

end Sys2Proof.Machine
end

