-- ==== Sys2Proof/Machine/Ops.lean ====
section
/-!
DEFINITION. The named operations over the state that every block uses: reading and updating one entry, time,
notices, answers, and taking a command at a port.
-/
namespace Sys2Proof.Machine

/-! ## One entry of a table -/

/-- A table with entry i changed by f. -/
def updateAt {n : Nat} {α : Type} (v : Vector α n) (i : Fin n) (f : α → α) : Vector α n := v.set i (f v[i])

/-- Socket entry k. -/
def State.socket (s : State) (k : SocketId) : Socket := s.sockets[k]

/-- Mask table entry m. -/
def State.mask (s : State) (m : MaskId) : MaskEntry := s.masks[m]

/-- Pair p. -/
def State.pair (s : State) (p : PairId) : Pair := s.pairs[p]

/-- Lane l. -/
def State.lane (s : State) (l : LaneId) : Lane := s.lanes[l]

/-- The result ring of station n. -/
def State.ring (s : State) (n : StationId) : Ring := s.rings[n]

/-- The port of station n. -/
def State.port (s : State) (n : StationId) : Port := s.ports[n]

/-- Change socket entry k. -/
def State.modSocket (s : State) (k : SocketId) (f : Socket → Socket) : State :=
  { s with sockets := updateAt s.sockets k f }

/-- Change mask table entry m. -/
def State.modMask (s : State) (m : MaskId) (f : MaskEntry → MaskEntry) : State :=
  { s with masks := updateAt s.masks m f }

/-- Change pair p. -/
def State.modPair (s : State) (p : PairId) (f : Pair → Pair) : State :=
  { s with pairs := updateAt s.pairs p f }

/-- Change lane l. -/
def State.modLane (s : State) (l : LaneId) (f : Lane → Lane) : State :=
  { s with lanes := updateAt s.lanes l f }

/-- Change the ring of station n. -/
def State.modRing (s : State) (n : StationId) (f : Ring → Ring) : State :=
  { s with rings := updateAt s.rings n f }

/-- Change the port of station n. -/
def State.modPort (s : State) (n : StationId) (f : Port → Port) : State :=
  { s with ports := updateAt s.ports n f }

/-- Change the request pool. -/
def State.modPool (s : State) (f : Pool → Pool) : State := { s with pool := f s.pool }

/-- Change the link arbiter. -/
def State.modLink (s : State) (f : Link → Link) : State := { s with link := f s.link }

/-- Change the line monitor. -/
def State.modMonitor (s : State) (f : LineMonitor → LineMonitor) : State := { s with monitor := f s.monitor }

/-- Change the input levels. -/
def State.modLines (s : State) (f : Lines → Lines) : State := { s with lines := f s.lines }

/-- Change the counter block. -/
def State.modCounters (s : State) (f : Counters → Counters) : State := { s with counters := f s.counters }

/-- Set the retune record of pair p (R105). -/
def State.setRetune (s : State) (p : PairId) (r : Option RequestRef) : State :=
  { s with retune := s.retune.set p r }

/-! ## Time -/

/-- The reading of the timestamp counter: 56 bits that wrap (R132). -/
def State.stamp (s : State) : Stamp := BitVec.ofNat 56 s.now

/-- The present time is at least t: an interval that ends at t is over when its expiry is taken. -/
def State.reach (s : State) (t : Nat) : State := { s with now := max s.now t }

/-- The present time moves on to the next moment at which the timestamp counter reads the stamp. -/
def State.reachStamp (s : State) (stamp : Stamp) : State := { s with now := s.now + (stamp - s.stamp).toNat }

/-- One tick of the timebase passes. -/
def State.tick (s : State) : State := { s with now := s.now + 1 }

/-! ## Notices and attention -/

/-- Change the latched notices of port n. -/
def State.latch (s : State) (n : StationId) (f : Latched → Latched) : State :=
  s.modPort n fun p => { p with latched := f p.latched }

/-- Set the SOCKET notice at the owner's port, if the socket has an owner (R45, R46, R52). -/
def State.noticeSocket (s : State) (owner : Option StationId) : State :=
  match owner with
  | none => s
  | some n => s.latch n fun l => { l with socket := true }

/-- Change the latched notices of all four ports. -/
def State.latchAll (s : State) (f : Latched → Latched) : State :=
  { s with ports := Vector.ofFn fun n => { s.ports[n] with latched := f s.ports[n].latched } }

/-- The readable records of a ring: the leading run of COMMITTED entries (R154). -/
def Ring.readable (r : Ring) : Nat := (r.entries.takeWhile fun e => e.record.isSome).length

/-- The RECORD notice of station n: true while its readable count is at least 1 (R177). -/
def State.recordNotice (s : State) (n : StationId) : Bool := decide (1 ≤ (s.ring n).readable)

/-- The notices of port n that are set or true. -/
def State.notices (s : State) (n : StationId) : Notices := (s.port n).latched.withRecord (s.recordNotice n)

/-- ATTN_n is driven low: an enabled notice is set or true. It is high in RESETTING, in HELD and during a device
reset (R179). -/
def State.attnLow (s : State) (n : StationId) : Bool :=
  !s.inReset && decide ((s.port n).resetState = .running) && (s.notices n).meets (s.port n).enable

/-- What a port drives on MISO (Port signals; R174): high impedance, the fill byte 0xFF, or the bytes of an answer
followed by the fill. -/
inductive Miso where
  | highImpedance
  | fill
  | answer (bytes : List Byte)
  deriving DecidableEq, Repr

/-- MISO_n: high impedance while CSN is high, in HELD and during a device reset; the answer once it is formed; the fill
byte otherwise (R174, R183, R186). For a RUNNING port that is IDLE with CSN low the spec names nothing on MISO; the fill
byte there is the model's choice (log 26). -/
def State.miso (s : State) (n : StationId) : Miso :=
  if s.inReset || decide ((s.port n).resetState = .held) || s.lines.csn[n] then .highImpedance
  else if (s.port n).transaction = .answering then
    match (s.port n).answer with
    | none => .fill
    | some a => .answer a.bytes
  else .fill

/-- SUPPLY_EN_k is high in ON and low in OFF and FAULT (R49). -/
def State.supplyEnable (s : State) (k : SocketId) : Bool := decide ((s.socket k).supply = .on)

/-! ## Taking a command at a port -/

/-- Port n can take a command: it is RUNNING and receiving a frame (R174, R183, R186). -/
def State.takes (s : State) (n : StationId) : Bool :=
  !s.inReset && decide ((s.port n).resetState = .running) && decide ((s.port n).transaction = .receiving)

/-- The port enters ANSWERING with its answer formed (R174). -/
def State.answerAt (s : State) (n : StationId) (a : Answer) : State :=
  s.modPort n fun p => { p with transaction := .answering, answer := some a }

/-- A complete frame is taken: the owning block gives the effect and the answer at the same event (R174). A port
that is not receiving takes none (log 12). -/
def takeCommand (n : StationId) (s : State) (block : State × Answer) : Host.Outcome State Fault Refusal :=
  if s.takes n then .next (block.1.answerAt n block.2) else .next s

/-- An answer with no payload, which changes nothing. -/
def refuse (s : State) (st : Status) : State × Answer := (s, ⟨st, []⟩)

/-- A fixed payload length is checked by the port before the block sees the frame (R175). -/
def fixedLength (len : Nat) (payload : List Byte) (s : State) (block : State × Answer) : State × Answer :=
  if payload.length = len then block else refuse s .frame

/-! ## Runs by their requests -/

/-- The lane's active run is the request's. -/
def Lane.runs (l : Lane) (r : RequestRef) : Bool :=
  match l.active with
  | none => false
  | some c => decide (c.request.ref = r)

/-- The lane's suspend slot holds the request's run. -/
def Lane.holds (l : Lane) (r : RequestRef) : Bool :=
  match l.slot with
  | none => false
  | some c => decide (c.request.ref = r)

/-- The lane whose active run is the request's. -/
def State.laneRunning (s : State) (r : RequestRef) : Option LaneId :=
  allLanes.find? fun l => (s.lane l).runs r

/-- The lane whose suspend slot holds the request's run. -/
def State.laneHolding (s : State) (r : RequestRef) : Option LaneId :=
  allLanes.find? fun l => (s.lane l).holds r

/-- The request of that name in the pool. -/
def State.queued (s : State) (r : RequestRef) : Option Request :=
  s.pool.requests.find? fun q => decide (q.ref = r)

/-- The request is live: in the pool, in a lane or in a suspend slot (R88). -/
def State.live (s : State) (r : RequestRef) : Bool :=
  (s.queued r).isSome || (s.laneRunning r).isSome || (s.laneHolding r).isSome

/-- The run is attached to pair p. -/
def attachedTo (p : PairId) : Option RunContext → Bool
  | none => false
  | some c => decide (c.pair = some p)

/-- The run belongs to station n. -/
def ownedBy (n : StationId) : Option RunContext → Bool
  | none => false
  | some c => decide (c.request.station = n)

end Sys2Proof.Machine
end

