-- ==== Sys2Proof/Machine/DeviceReset.lean ====
section
/-!
DEFINITION. The device reset (10_station_ports.md, R186).
-/
namespace Sys2Proof.Machine

/-- A port during a device reset: held, no transaction, no notice (R186). -/
def Port.duringReset : Port := { Port.reset false with latched := Latched.empty }

/-- DEVICE_RESET (R186): every block takes its device reset values with no record composed, and every port is held
until the end. The input levels are kept, as is what waits in the queue. -/
def execDeviceReset (s : State) : Host.Outcome State Fault Refusal :=
  .next { State.ofReset s.lines s.pending with inReset := true, ports := Vector.replicate 4 Port.duringReset }

/-- DEVICE_RESET_END (R186): the values of every block at the end of the reset, from the input levels as they then
stand; the timestamp counter starts from 0 (R132). -/
def execDeviceResetEnd (s : State) : Host.Outcome State Fault Refusal :=
  .next (if s.inReset then State.ofReset s.lines s.pending else s)

end Sys2Proof.Machine
end

