-- ==== Sys2Proof/Machine/EtuOps.lean ====
section
/-!
DEFINITION. The Edge Timing Unit by itself: start and stop (R133, R140), the glitch filter (R134), timed edges and
the capture history (R136, R137), the period statistics (R138) and the results at the window close (R141 to R145).
-/
namespace Sys2Proof.Machine

/-- The unit is in OPENING or COUNTING. -/
def Etu.active (e : Etu) : Bool := decide (e.state ≠ .stopped)

/-- The unit is started (R133): history, counts and statistics cleared, the input's present level taken as the
filtered level without an edge, the edge timeout timer started. -/
def Etu.start (g : EtuSetting) (input : Bool) (now : Nat) : Etu where
  state := .opening
  setting := some g
  filtered := input
  qualification := none
  history := []
  periods := 0
  stats := PeriodStats.cleared
  glitches := 0
  timeout := some (now + Config.edgeTimeout)

/-- The unit is stopped, or times out: timer stopped, qualification dropped, history, period count, statistics and
glitch count discarded. A unit already STOPPED stays as it is (R139, R140). -/
def Etu.stop (e : Etu) : Etu :=
  if e.active then
    { e with
      state := .stopped
      qualification := none
      history := []
      periods := 0
      stats := PeriodStats.cleared
      glitches := 0
      timeout := none }
  else e

/-- The shorter of a sample and the shortest so far. -/
def shorter (p : Nat) : Option Nat → Option Nat
  | none => some p
  | some x => some (min x p)

/-- The longer of a sample and the longest so far. -/
def longer (p : Nat) : Option Nat → Option Nat
  | none => some p
  | some x => some (max x p)

/-- A period sample, with its high time (0 outside BOTH), joins the statistics (R136 to R138). -/
def PeriodStats.add (t : PeriodStats) (period high : Nat) : PeriodStats where
  span := t.span + period
  squares := t.squares + period * period
  shortest := shorter period t.shortest
  longest := longer period t.longest
  high := t.high + high

/-- The interval between two timestamps, modulo 2^56 (R132). -/
def interval (later earlier : Stamp) : Nat := (later - earlier).toNat

/-- The depth of the capture history (R136, R137). -/
def EdgeMode.depth : EdgeMode → Nat
  | .rising => 2
  | .falling => 2
  | .both => 3

/-- The mode times an accepted edge of this direction (the edge mode table). -/
def EdgeMode.times (m : EdgeMode) (rising : Bool) : Bool :=
  match m with
  | .rising => rising
  | .falling => !rising
  | .both => true

/-- The timed edge is one at which a window opens and periods end: every one in RISING or FALLING, a rising one in
BOTH (R136, R137). -/
def EdgeMode.marks (m : EdgeMode) (rising : Bool) : Bool :=
  match m with
  | .rising => rising
  | .falling => !rising
  | .both => rising

/-- The period sample and high time that a new edge forms with the history before it (R136, R137). -/
def sampleOf (m : EdgeMode) (stamp : Stamp) (history : List Edge) : Option (Nat × Nat) :=
  match m, history with
  | .both, previous :: before :: _ =>
    some (interval stamp before.stamp, interval previous.stamp before.stamp)
  | .both, _ => none
  | _, previous :: _ => some (interval stamp previous.stamp, 0)
  | _, [] => none

/-- A timed edge: it enters the history and restarts the edge timeout timer; it opens the window, or ends a period
(R136, R137, R139). -/
def Etu.timed (e : Etu) (m : EdgeMode) (rising : Bool) (stamp : Stamp) (now : Nat) : Etu :=
  let e1 := { e with
    history := (⟨rising, stamp⟩ :: e.history).take m.depth
    timeout := some (now + Config.edgeTimeout) }
  if m.marks rising then
    match e.state with
    | .opening => { e1 with state := .counting }
    | .counting =>
      match sampleOf m stamp e.history with
      | none => e1
      | some (p, h) => { e1 with periods := e.periods + 1, stats := e.stats.add p h }
    | .stopped => e1
  else e1

/-- An edge is accepted: the filtered level takes the new level, and the edge is timed if the mode times its
direction (R134, R136). -/
def Etu.accept (e : Etu) (level : Bool) (stamp : Stamp) (now : Nat) : Etu :=
  let e1 := { e with filtered := level, qualification := none }
  match e.setting with
  | none => e1
  | some g => if g.mode.times level then e1.timed g.mode level stamp now else e1

/-- The edge just accepted ended the last period of the window (R138). -/
def Etu.closes (before after : Etu) : Bool :=
  match after.setting with
  | none => false
  | some g => decide (after.periods ≠ before.periods) && decide (after.periods = g.periods)

/-- The window closes: the timer stops and the unit enters STOPPED (R138), and the glitch count of a stage other than
JITTER is discarded (R135). What else it counted stays until the next start clears it (log 22). -/
def Etu.close (e : Etu) : Etu :=
  { e with
    state := .stopped
    timeout := none
    glitches := if e.setting.map EtuSetting.stage = some .jitter then e.glitches else 0 }

/-- The input returned to the filtered level within the width: a glitch, counted up to 65,535 (R134). -/
def Etu.glitch (e : Etu) : Etu := { e with qualification := none, glitches := holdNat 65535 (e.glitches + 1) }

/-- The filter width of the setting, in ticks. -/
def Etu.width (e : Etu) : Nat :=
  match e.setting with
  | none => 0
  | some g => g.width

/-! ## Results -/

/-- Ticks in one second, the 2 × 10^12 of R141. -/
def ticksPerSecond : Nat := 2000000000000

/-- The frequency offset in ppb, exact and then rounded and held (R141). -/
def offsetPpb (n span nominal : Nat) : Int :=
  holdInt (-2000000000) 2000000000 <|
    if span = 0 then Config.offsetAtZeroSpan n
    else roundDiv (((n * ticksPerSecond : Nat) - (span * nominal : Nat) : Int) * 1000000000) (span * nominal)

/-- The RMS jitter in fs: 500·√((Σp² − S²/N)/N), rounded and held (R142). With A = 250000·(N·Σp² − S²) it is
√A / N, and the nearest integer to that is the floor of (√(4A) + N)/(2N). -/
def rmsJitter (n span squares : Nat) : Nat :=
  holdNat 4294967294 ((intSqrt (4 * (250000 * (n * squares - span * span))) + n) / (2 * n))

/-- The peak-to-peak jitter in fs (R142). -/
def ppJitter (t : PeriodStats) : Nat := holdNat 4294967294 (500 * (t.longest.getD 0 - t.shortest.getD 0))

/-- The duty cycle in hundredths of a percent (R144). -/
def dutyCycle (t : PeriodStats) : Nat :=
  holdNat 10000 <|
    if t.span = 0 then Config.dutyAtZeroSpan t.high else (2 * (t.high * 10000) + t.span) / (2 * t.span)

/-- The pull in ppm, computed exactly from the two spans and period counts (R8, R145). -/
def pullPpm (low high : Nat × Nat) (nominal : Nat) : Nat :=
  holdNat 65534 <|
    if low.1 = 0 ∨ high.1 = 0 then Config.pullAtZeroSpan low.1 high.1
    else
      (roundDiv
        (((high.2 * low.1 : Nat) - (low.2 * high.1 : Nat) : Int).natAbs * (ticksPerSecond * 1000000) : Nat)
        (high.1 * low.1 * nominal)).toNat

end Sys2Proof.Machine
end

