-- ==== Sys2Proof/Machine/PairOps.lean ====
section
/-!
DEFINITION. The pair engines and the link arbiter, as far as they reach no lane: tuning images and queues (R68 to
R70), the grant of the link (R72), and the entries into LOCKING, SETTLING and RELOCKING (R74, R75, R78, R79).
-/
namespace Sys2Proof.Machine

/-- The range of a tuned frequency (R67). -/
def rangeOf (f : Nat) : FreqRange :=
  if f ≤ 12500000 then .range1 else if f ≤ 50000000 then .range2 else .range3

/-- Synthesizers of a pair: A or B. -/
inductive Synth where
  | a | b
  deriving DecidableEq, Repr

/-- The link address of a pair's synthesizer: P0 has 0 and 1, P1 has 2 and 3 (R70). -/
def synthAddr (p : PairId) : Synth → SynthAddr
  | .a => if p = 0 then 0 else 2
  | .b => if p = 0 then 1 else 3

/-- The pair a link address belongs to. -/
def pairOfSynth (a : SynthAddr) : PairId := if a.val < 2 then 0 else 1

/-- Words 0 to 4 of a tuning image (R69). -/
def Pair.imageHead (p : Pair) (y : Synth) : List Word16 :=
  let f := p.tuned.getD 0
  [BitVec.ofNat 16 (rangeByte p.range + 4 + (match y with | .a => 0 | .b => 8)),
   BitVec.ofNat 16 f, BitVec.ofNat 16 (f / 65536), p.tunings, BitVec.ofNat 16 p.attempts]

/-- The tuning image of a synthesizer for the present attempt: word 5 makes the sum of all six 0 (R69). -/
def Pair.image (p : Pair) (y : Synth) : List Word16 :=
  p.imageHead y ++ [0 - (p.imageHead y).foldl (· + ·) 0]

/-- The six writes of an image to a synthesizer, word indexes 0 to 5 in order (R70). -/
def imageWrites (a : SynthAddr) (image : List Word16) : List LinkTransaction :=
  image.mapIdx fun i w => .write a i w

/-- The address a transaction is for. -/
def LinkTransaction.addr : LinkTransaction → SynthAddr
  | .write a _ _ => a
  | .readIncrement a _ _ => a

/-- The header byte: the link address in bits 0 and 1, the operation in bit 7 (R71). -/
def LinkTransaction.header : LinkTransaction → Byte
  | .write a _ _ => BitVec.ofNat 8 a.val
  | .readIncrement a _ _ => BitVec.ofNat 8 (a.val + 128)

/-- A word on the link: two bytes, the high byte first (R71). -/
def linkWord (w : Word16) : List Byte := [BitVec.ofNat 8 (w.toNat / 256), BitVec.ofNat 8 w.toNat]

/-- The bytes the part sends in a transaction, between its start and its stop or the synthesizer's words (R71). -/
def LinkTransaction.sent (t : LinkTransaction) : List Byte :=
  t.header ::
    match t with
    | .write _ i w => BitVec.ofNat 8 i :: linkWord w
    | .readIncrement _ i k => [BitVec.ofNat 8 i, BitVec.ofNat 8 k]

/-- The bytes a synthesizer that holds these words sends in a transaction: none for a write, `count` words from the
index upward for a read-increment, and 0xFFFF for a word that it does not drive (R71). -/
def LinkTransaction.received (held : List Word16) : LinkTransaction → List Byte
  | .write _ _ _ => []
  | .readIncrement _ i k => (List.range k).flatMap fun j => linkWord (held.getD (i + j) 0xFFFF)

/-- The fourteen transactions of an attempt (R70). -/
def attemptQueue (p : PairId) (pair : Pair) : List LinkTransaction :=
  imageWrites (synthAddr p .a) (pair.image .a) ++ imageWrites (synthAddr p .b) (pair.image .b) ++
  [.readIncrement (synthAddr p .a) 0 6, .readIncrement (synthAddr p .b) 0 6]

/-- Every timer of a pair is stopped and any calibration discarded (R68, R80). -/
def Pair.stopTimers (p : Pair) : Pair :=
  { p with lockTimer := none, settleTimer := none, relockTimer := none, calibrating := false }

/-- The pair enters PROGRAMMING and fills its queue for the present attempt (R68, R70, R73). -/
def Pair.program (id : PairId) (p : Pair) : Pair :=
  { p with state := .programming, queue := attemptQueue id p }

/-! ## The link arbiter -/

/-- The engine that is granted: the one that offers, or the one the pointer names when both do (R72). -/
def State.linkChoice (s : State) : Option PairId :=
  match (s.pair 0).queue, (s.pair 1).queue with
  | [], [] => none
  | _ :: _, [] => some 0
  | [], _ :: _ => some 1
  | _ :: _, _ :: _ => some s.link.pointer

/-- The other pair. -/
def otherPair (p : PairId) : PairId := if p = 0 then 1 else 0

/-- The grant of a transaction to engine p: it leaves the queue and becomes current, and the pointer names the
other engine (R70, R72). -/
def grantTo (s : State) (p : PairId) : State :=
  match (s.pair p).queue with
  | [] => s
  | t :: rest =>
    (s.modPair p fun x => { x with queue := rest }).modLink fun _ => ⟨some (p, t), otherPair p⟩

/-- The arbiter grants when the link has no current transaction and an engine offers one (R72). -/
def linkGrant (s : State) : State :=
  if s.link.current.isSome then s
  else match s.linkChoice with
    | none => s
    | some p => grantTo s p

/-! ## Tuning -/

/-- The pair's fields when a tuning to f is accepted (R68, steps 1 to 6). -/
def Pair.tune (id : PairId) (f : Nat) (p : Pair) : Pair :=
  Pair.program id
    ({ p with
        tuned := some f
        range := some (rangeOf f)
        tunings := p.tunings + 1
        attempts := 0
        calibrated := false }).stopTimers

/-- A tuning of pair p to frequency f is accepted (R68); its engine offers its first transaction (R70, R72). -/
def acceptTuning (s : State) (p : PairId) (f : Nat) : State := linkGrant (s.modPair p (Pair.tune p f))

/-! ## Lock lines and settling -/

/-- Both lock lines of the pair are high (R74). -/
def State.bothLocked (s : State) (p : PairId) : Bool :=
  s.lines.lock[synthAddr p .a] && s.lines.lock[synthAddr p .b]

/-- The settle interval from LOCKING (R74). -/
def Pair.settleInterval (p : Pair) : Nat :=
  if p.firstLock || decide (p.range ≠ p.lastReadyRange) then Config.longSettle else Config.shortSettle

/-- The pair enters SETTLING with the interval, its lock and relock timers stopped (R74, R75, R79). -/
def Pair.settleFor (now interval : Nat) (p : Pair) : Pair :=
  { p with state := .settling, lockTimer := none, relockTimer := none, settleTimer := some (now + interval) }

/-- The pair enters LOCKING: it settles at once when both lines are high, and starts its lock timer otherwise
(R74). -/
def enterLocking (s : State) (p : PairId) : State :=
  if s.bothLocked p then s.modPair p fun x => x.settleFor s.now x.settleInterval
  else s.modPair p fun x => { x with state := .locking, lockTimer := some (s.now + Config.lockTime) }

/-- The pair enters RELOCKING: the settle timer or calibration is discarded and the relock timer starts (R78). -/
def Pair.relock (now : Nat) (p : Pair) : Pair :=
  { p with
    state := .relocking
    settleTimer := none
    calibrating := false
    relockTimer := some (now + Config.relockTime) }

/-- The pair is transient: it refuses a new tuning (R83). -/
def PairState.transient : PairState → Bool
  | .programming => true
  | .locking => true
  | .settling => true
  | .calibrating => true
  | .relocking => true
  | .off => false
  | .ready => false
  | .fault => false

/-- The pair is free: attachment count 0 and state OFF or READY (R81). -/
def Pair.isFree (p : Pair) : Bool :=
  decide (p.attachments = 0) && (decide (p.state = .off) || decide (p.state = .ready))

/-- The pair serves frequency f: neither OFF nor FAULT, and tuned to f (R81, R103). -/
def Pair.serves (p : Pair) (f : Nat) : Bool :=
  decide (p.state ≠ .off) && decide (p.state ≠ .fault) && decide (p.tuned = some f)

/-- The pair is READY at frequency f (R94). -/
def Pair.readyAt (p : Pair) (f : Nat) : Bool := decide (p.state = .ready) && decide (p.tuned = some f)

/-! ## Calibration -/

/-- The floor table of a calibration: the measured level of each valid decade, held within −1900 to −1000; −1000
for the invalid ones (R76). -/
def calibratedFloors (f : Nat) (measured : Vector Level 8) : Vector Int 8 :=
  Vector.ofFn fun d =>
    if decadeValid f d.val then holdInt (-1900) (-1000) (tenths measured[d]) else -1000

/-- F0 of a band: the highest entry of the floor table over its decades (R13). None only for a band over no
decade. -/
def worstFloor (floors : Vector Int 8) (b : Band) : Option Int :=
  ((allDecades.filter fun d => decide (b.first ≤ d.val) && decide (d.val ≤ b.last)).map fun d => floors[d]).max?

end Sys2Proof.Machine
end

