-- ==== Sys2Proof/Machine/RingOps.lean ====
section
/-!
DEFINITION. The result rings' operations: reservation at dispatch (R149, R150), commit at run end (R152, R153),
removal (R155) and emptying (R158).
-/
namespace Sys2Proof.Machine

/-- The words the entries of a ring take from its store (R147). -/
def Ring.used (r : Ring) : Nat := (r.entries.map RingEntry.size).sum

/-- Free words (R147). -/
def Ring.free (r : Ring) : Nat := Config.ringWords - r.used

/-- The RESERVED entries of a ring. -/
def Ring.reserved (r : Ring) : Nat := (r.entries.filter fun e => e.record.isNone).length

/-- The COMMITTED entries of a ring. -/
def Ring.committed (r : Ring) : Nat := (r.entries.filter fun e => e.record.isSome).length

/-- A ring takes a reservation only when it has room for it (R147). -/
def Ring.hasRoom (r : Ring) (size : Nat) : Bool := decide (r.used + size ≤ Config.ringWords)

/-- Add a reservation at the end of the list. -/
def Ring.reserve (r : Ring) (e : RingEntry) : Ring := ⟨r.entries ++ [e]⟩

/-- Fill the RESERVED entry of the run where it stands (R152). -/
def commitEntries (run : RequestRef) (rec : Record) : List RingEntry → List RingEntry
  | [] => []
  | e :: rest =>
    if e.record = none ∧ e.run = run then { e with record := some rec } :: rest
    else e :: commitEntries run rec rest

/-- Commit a record into the run's reservation. -/
def Ring.commit (r : Ring) (run : RequestRef) (rec : Record) : Ring := ⟨commitEntries run rec r.entries⟩

/-! ## Reservation -/

/-- The record size of a request: 12 + 2·b words (R85). -/
def recordSize (b : Nat) : Nat := 12 + 2 * b

/-- The descriptor a dispatch writes (R161). -/
def descriptorFor (s : State) (q : Request) (m : Mask) (pair : Option PairId) : Descriptor where
  kind := q.kind
  owner := q.station
  id := q.id
  socket := q.socket
  loadGen := q.loadGen
  mask := q.mask
  version := (s.mask q.mask).version
  pair := pair
  bands := if q.band then (match m.band with | none => [] | some d => d.bands) else []

/-- The entry reserved for a run in station n's ring: ORIGINAL for the owner, COPY for others (R148). -/
def entryFor (s : State) (q : Request) (m : Mask) (pair : Option PairId) (n : StationId) : RingEntry where
  run := q.ref
  role := if n = q.station then .original else .copy
  size := q.size
  descriptor := descriptorFor s q m pair
  record := none

/-- Station n is the owner, or a copy station of the mask (R41, R149, R150). -/
def wantsRecord (q : Request) (m : Mask) (n : StationId) : Bool := decide (n = q.station) || m.copySet[n]

/-- The rings that take a reservation for the run: the owner's and those copy stations' that have room. Each
station has a ring of its own, so the order of R150 does not change what any of them takes. -/
def reservedIn (s : State) (q : Request) (m : Mask) : StationSet :=
  Vector.ofFn fun n => wantsRecord q m n && (s.ring n).hasRoom q.size

/-- The copy stations whose rings lack room: the skipped-copies set at dispatch (R150). -/
def skippedBy (s : State) (q : Request) (m : Mask) : StationSet :=
  Vector.ofFn fun n => m.copySet[n] && !decide (n = q.station) && !(s.ring n).hasRoom q.size

/-- The reservations of a dispatch (R149, R150). -/
def reserveAll (s : State) (q : Request) (m : Mask) (pair : Option PairId) : State :=
  { s with rings := Vector.ofFn fun n =>
      if (reservedIn s q m)[n] then (s.ring n).reserve (entryFor s q m pair n) else s.ring n }

/-! ## Commit -/

/-- The ticks a run timer has counted, held at the mask's run time limit (R115). -/
def RunContext.ticks (c : RunContext) (now : Nat) : Nat :=
  min (c.mask.runLimit * Config.second)
    (c.elapsed + match c.since with | none => 0 | some t => now - t)

/-- The run time in whole seconds (R115). -/
def RunContext.seconds (c : RunContext) (now : Nat) : Nat := c.ticks now / Config.second

/-- The verdict of a run: the first line of R23 that applies. -/
def RunContext.verdict (c : RunContext) : Verdict :=
  if c.cause.isSome then .aborted
  else match c.ending with
    | some .timeout => .timeout
    | some .disturbed => .disturbed
    | some .noSignal => .noSignal
    | some .offFrequency => .offFrequency
    | _ =>
      if c.fails.any then .fail
      else if c.bands.any fun b => decide (b.state = .unreached) then .unreached
      else if c.bands.any fun b => decide (b.state = .marginal) then .marginal
      else .pass

/-- The record of a run at its end (R24, R162). -/
def RunContext.record (c : RunContext) (now : Nat) : Record where
  verdict := c.verdict
  cause := c.cause
  rounds := c.rounds
  retries := c.retries
  fails := c.fails
  disturbances := c.disturbances
  skipped := c.skipped
  counted := c.counted
  runTime := c.seconds now
  frequency := c.frequency
  pull := c.pull
  jitter := c.jitter
  glitches := c.glitches
  duty := c.duty
  bands := c.bands.map fun b => ⟨b.state, b.estimate, b.floor⟩

/-- The run commits into station n's ring: it holds a reservation there, and it is not its owner's own ring at a
station reset (R152, R153). -/
def commitsIn (c : RunContext) (n : StationId) : Bool :=
  c.refs[n] && !(decide (c.cause = some .stationReset) && decide (n = c.request.station))

/-- The commit of R152 in every ring that holds a reservation of the run. -/
def commitAll (s : State) (c : RunContext) : State :=
  { s with rings := Vector.ofFn fun n =>
      if commitsIn c n then (s.ring n).commit c.request.ref (c.record s.now) else s.ring n }

/-! ## Emptying at a station reset -/

/-- The run has a RESERVED COPY in the ring that is emptied (R158, step 3). -/
def Ring.reservedCopy (r : Ring) (run : RequestRef) : Bool :=
  r.entries.any fun e => e.record.isNone && decide (e.role = .copy) && decide (e.run = run)

/-- A run drops its reference to station n's ring and names n in its skipped-copies set (R158, step 3). -/
def dropCopy (n : StationId) (r : Ring) (c : RunContext) : RunContext :=
  if r.reservedCopy c.request.ref then { c with refs := c.refs.set n false, skipped := c.skipped.set n true }
  else c

/-- The runs of a lane take the emptying of station n's ring. -/
def Lane.dropCopies (n : StationId) (r : Ring) (l : Lane) : Lane :=
  { l with active := l.active.map (dropCopy n r), slot := l.slot.map (dropCopy n r) }

/-- Station n's ring is emptied at one event (R158). -/
def emptyRing (s : State) (n : StationId) : State :=
  { s with
    lanes := Vector.ofFn fun l => (s.lane l).dropCopies n (s.ring n)
    rings := updateAt s.rings n fun _ => Ring.reset }

end Sys2Proof.Machine
end

