-- ==== Sys2Proof/Machine/PoolOps.lean ====
section
/-!
DEFINITION. The request pool: age, departures, eligibility and wait reasons (R86 to R95), the arbiter's choice
(R98), and the pair planner (R103 to R105).
-/
namespace Sys2Proof.Machine

/-! ## Requests -/

/-- The class of a request (R85). -/
def Request.requestClass (q : Request) : RequestClass := q.kind.requestClass

/-- The contents of the mask a request names. -/
def State.maskFor (s : State) (q : Request) : Option Mask := (s.mask q.mask).contents

/-- The nominal frequency a band request wants (R85, R103). -/
def State.wants (s : State) (q : Request) : Option Nat :=
  if q.band then (s.maskFor q).map Mask.nominal else none

/-- A request's age: the distance from its submit sequence to the counter, modulo 2^32 (R87). -/
def Pool.age (p : Pool) (q : Request) : Nat := (p.nextSeq - q.seq).toNat

/-- The oldest of a list of requests (R87). -/
def Pool.oldest (p : Pool) : List Request → Option Request
  | [] => none
  | q :: rest =>
    match p.oldest rest with
    | none => some q
    | some x => if p.age q < p.age x then some x else some q

/-- The pool entries of station n. -/
def Pool.ofStation (p : Pool) (n : StationId) : List Request :=
  p.requests.filter fun q => decide (q.station = n)

/-- The entry of that name leaves the pool. -/
def Pool.drop (r : RequestRef) (p : Pool) : Pool :=
  { p with requests := p.requests.filter fun q => !decide (q.ref = r) }

/-- A mask's reference count falls by 1 (R38). -/
def MaskEntry.release (m : MaskEntry) : MaskEntry := { m with refCount := m.refCount - 1 }

/-- The socket has no work: engagement IDLE, request none, connected lane none (R56). -/
def Socket.disengage (k : Socket) : Socket := { k with engagement := .idle, request := none, lane := none }

/-- A request leaves the pool without dispatch: the entry is removed, the mask's reference count falls and the
socket becomes IDLE; no record is written (R91). -/
def leavePool (s : State) (q : Request) : State :=
  ((s.modPool (Pool.drop q.ref)).modMask q.mask MaskEntry.release).modSocket q.socket Socket.disengage

/-! ## Eligibility -/

/-- The lane is usable: IDLE with an empty suspend slot (R94, R107). -/
def Lane.usable (l : Lane) : Bool := decide (l.state = .idle) && l.slot.isNone

/-- The lowest-numbered usable lane (R98). -/
def State.usableLane (s : State) : Option LaneId := allLanes.find? fun l => (s.lane l).usable

/-- Condition 1 of R94: the socket's supply is ON. -/
def State.powered (s : State) (q : Request) : Bool := decide ((s.socket q.socket).supply = .on)

/-- Condition 2 of R94: powered-for has reached the mask's warm-up. -/
def State.warm (s : State) (q : Request) (m : Mask) : Bool := decide (m.warmUp ≤ (s.socket q.socket).poweredFor)

/-- Condition 3 of R94: a band request has a READY pair at its mask's nominal frequency. -/
def State.paired (s : State) (q : Request) (m : Mask) : Bool :=
  !q.band || allPairs.any fun p => (s.pair p).readyAt m.nominal

/-- Condition 4 of R94: the owner's ring has room for the record. -/
def State.ringRoom (s : State) (q : Request) : Bool := (s.ring q.station).hasRoom q.size

/-- Conditions 1 to 4 of R94 hold. -/
def State.readyToRun (s : State) (q : Request) : Bool :=
  match s.maskFor q with
  | none => false
  | some m => s.powered q && s.warm q m && s.paired q m && s.ringRoom q

/-- The request is eligible (R94): condition 5 asks a usable lane of a STANDARD request only. -/
def State.eligible (s : State) (q : Request) : Bool :=
  s.readyToRun q && (decide (q.requestClass = .express) || s.usableLane.isSome)

/-- The wait reasons as bits 0 to 5 (R95, R96). -/
def State.waitReasons (s : State) (q : Request) : Nat :=
  match s.maskFor q with
  | none => 0
  | some m =>
    let k := s.socket q.socket
    let served := allPairs.any fun p => (s.pair p).serves m.nominal
    bitsOf
      [decide (k.supply ≠ .on),
       decide (k.supply = .on) && !s.warm q m,
       q.band && !served,
       q.band && served && !s.paired q m,
       !s.ringRoom q,
       s.readyToRun q && s.usableLane.isNone]

/-- The pair a dispatch attaches the run to: READY at the frequency, the one with fewer attachments, P0 if they
are alike (R99). -/
def State.attachChoice (s : State) (f : Nat) : Option PairId :=
  match (s.pair 0).readyAt f, (s.pair 1).readyAt f with
  | true, true => if (s.pair 1).attachments < (s.pair 0).attachments then some 1 else some 0
  | true, false => some 0
  | false, true => some 1
  | false, false => none

/-- The pair that serves a frequency, as QUERY REQUEST names it (R96). -/
def State.servingPair (s : State) (f : Nat) : Option PairId :=
  match s.attachChoice f with
  | some p => some p
  | none => allPairs.find? fun p => (s.pair p).serves f

/-! ## The arbiter's choice -/

/-- Stations in round-robin order, starting with the one after the last-granted (R98). -/
def roundRobin (last : StationId) : List StationId := [last + 1, last + 2, last + 3, last]

/-- Of the candidates, the oldest of the first station in round-robin order that has one (R98, lines 2 and 3). -/
def State.pick (s : State) (candidates : List Request) : Option Request :=
  (roundRobin s.pool.lastGranted).findSome? fun n =>
    s.pool.oldest (candidates.filter fun q => decide (q.station = n))

/-- The eligible requests of a class. -/
def State.eligibleOf (s : State) (c : RequestClass) : List Request :=
  s.pool.requests.filter fun q => decide (q.requestClass = c) && s.eligible q

/-- The request the next grant goes to: EXPRESS first (R98, line 1). -/
def State.grantChoice (s : State) : Option Request :=
  match s.pick (s.eligibleOf .express) with
  | some q => some q
  | none => s.pick (s.eligibleOf .standard)

/-! ## The pair planner -/

/-- The band requests of the pool that want f (R103). -/
def State.wanting (s : State) (f : Nat) : List Request :=
  s.pool.requests.filter fun q => decide (s.wants q = some f)

/-- F's oldest wanting request (R103). -/
def State.oldestWanting (s : State) (f : Nat) : Option Request := s.pool.oldest (s.wanting f)

/-- No pair serves f (R103). -/
def State.unserved (s : State) (f : Nat) : Bool := !allPairs.any fun p => (s.pair p).serves f

/-- The oldest band request whose frequency is unserved and not yet taken in this pass (R103). -/
def State.nextUnserved (s : State) (taken : List Nat) : Option Request :=
  s.pool.oldest <| s.pool.requests.filter fun q =>
    match s.wants q with
    | none => false
    | some f => s.unserved f && !taken.contains f

/-- Line 1 of R104: a free pair in OFF. -/
def State.offPair (s : State) : Option PairId :=
  allPairs.find? fun p => (s.pair p).isFree && decide ((s.pair p).state = .off)

/-- The frequency of a free READY pair. -/
def State.freeReady (s : State) (p : PairId) : Option Nat :=
  if (s.pair p).isFree && decide ((s.pair p).state = .ready) then (s.pair p).tuned else none

/-- Line 2 of R104: a free READY pair whose frequency is not wanted. -/
def State.unwantedPair (s : State) : Option PairId :=
  allPairs.find? fun p =>
    match s.freeReady p with
    | none => false
    | some g => (s.oldestWanting g).isNone

/-- Line 3 of R104 for one pair: the age of its frequency's oldest wanting request, when younger than x. -/
def State.youngerClaim (s : State) (x : Request) (p : PairId) : Option Nat :=
  match s.freeReady p with
  | none => none
  | some g =>
    match s.oldestWanting g with
    | none => none
    | some y => if s.pool.age y < s.pool.age x then some (s.pool.age y) else none

/-- Line 3 of R104: of such pairs, the one whose oldest wanting request is the youngest; P0 if they are equal. -/
def State.youngerPair (s : State) (x : Request) : Option PairId :=
  match s.youngerClaim x 0, s.youngerClaim x 1 with
  | none, none => none
  | some _, none => some 0
  | none, some _ => some 1
  | some a, some b => if b < a then some 1 else some 0

/-- The planner's choice of a free pair for the frequency that x wants (R104). -/
def State.planChoice (s : State) (x : Request) : Option PairId :=
  match s.offPair with
  | some p => some p
  | none =>
    match s.unwantedPair with
    | some p => some p
    | none => s.youngerPair x

/-- The planner starts a tuning of p to f for x, and keeps a retune record (R103, R105). -/
def plannerTune (s : State) (p : PairId) (f : Nat) (x : Request) : State :=
  acceptTuning (s.setRetune p (some x.ref)) p f

/-- The rest of a planner pass: `fuel` bounds the frequencies still to take, `taken` are those taken (R103). -/
def plannerLoop : Nat → List Nat → State → State
  | 0, _, s => s
  | fuel + 1, taken, s =>
    match s.nextUnserved taken with
    | none => s
    | some x =>
      match s.wants x with
      | none => s
      | some f =>
        match s.planChoice x with
        | none => plannerLoop fuel (f :: taken) s
        | some p => plannerLoop fuel (f :: taken) (plannerTune s p f x)

/-- A planner pass (R103). Each turn takes one wanted frequency, so there are no more turns than requests. -/
def plannerPass (s : State) : State := plannerLoop s.pool.requests.length [] s

/-- Pair p has become free, if it has: the planner makes a pass (R81, R103). -/
def plannerIfFree (s : State) (p : PairId) : State :=
  if (s.pair p).isFree && decide ((s.pair p).state = .ready) then plannerPass s else s

end Sys2Proof.Machine
end

