-- ==== Sys2Proof/Machine/YieldOps.lean ====
section
/-!
DEFINITION. The yield counters' increment and its crossings (R168, R169).
-/
namespace Sys2Proof.Machine

/-- The increment changes the count: not when frozen, nor at 65,535 under SATURATE (R168). -/
def Counters.applies (c : Counters) (k : SocketId) (i : Fin 6) : Bool :=
  !c.freeze && !(c.saturate && decide (c.counts[k][i] = 65535))

/-- The crossing an applied increment from this count makes (R169). -/
def crossingFrom (count : Word16) : Option Crossing :=
  if count = 32767 then some .half else if count = 65534 then some .full else none

/-- The counter block after an applied increment: the count plus 1, 65,535 wrapping to 0, and the last-crossing
record replaced at a crossing (R168, R169). -/
def Counters.bump (c : Counters) (k : SocketId) (i : Fin 6) : Counters :=
  { c with
    counts := updateAt c.counts k fun row => updateAt row i (· + 1)
    last := match crossingFrom c.counts[k][i] with
      | none => c.last
      | some x => some ⟨k, i, x⟩ }

/-- An increment request for count i of socket k; a crossing sets COUNTER at all four ports (R168, R169). -/
def bumpYield (s : State) (k : SocketId) (i : Fin 6) : State :=
  if s.counters.applies k i then
    let t := s.modCounters fun c => c.bump k i
    if (crossingFrom s.counters.counts[k][i]).isSome then t.latchAll fun l => { l with counter := true } else t
  else s

end Sys2Proof.Machine
end

