-- ==== Sys2Proof/Machine/LaneOps.lean ====
section
/-!
DEFINITION. What a lane does with its runs: starting work (R109 to R114), dispatch (R99), the arbiter's grants and
marks (R97, R101, R102), run end (R128), suspension and resumption (R123, R124), and the ending events (R125,
R126). Each of these is one indivisible part of a step (95_what_each_step_holds.md).
-/
namespace Sys2Proof.Machine

/-! ## Plans and intervals -/

/-- The stage plan of a kind under a mask (R3). -/
def stagePlan (k : Kind) (m : Mask) : List Stage :=
  match k with
  | .measure =>
    .frequency :: ((if m.jitter.isSome then [.jitter] else []) ++ (if m.band.isSome then [.correlation] else []))
  | .frequencyCheck => [.frequency]
  | .pullCheck => [.pullLow, .pullHigh]

/-- The stage after one in a plan. -/
def stageAfter (x : Stage) : List Stage → Option Stage
  | [] => none
  | y :: rest => if y = x then rest.head? else stageAfter x rest

/-- The bands of a run: the mask's for a MEASURE, none for the express kinds (R1, R3). -/
def runBands (k : Kind) (m : Mask) : List Band :=
  match k, m.band with
  | .measure, some d => d.bands
  | _, _ => []

/-- The length of a correlation segment whose lowest decade is d (R10). -/
def segmentLength (d : Nat) : Nat :=
  match d with
  | 0 => 2 * Config.second
  | 1 => 200 * Config.millisecond
  | 2 => 20 * Config.millisecond
  | 3 => 2 * Config.millisecond
  | _ => 200 * Config.microsecond

/-- The segment length of a run: its mask's lowest decade is the first decade of its first band (R10). -/
def RunContext.segment (c : RunContext) : Nat :=
  match c.bands with
  | [] => segmentLength 4
  | b :: _ => segmentLength b.band.first

/-- The period count a stage needs: N_j for JITTER, N_f for the others (R111). -/
def stagePeriods (m : Mask) : Stage → Nat
  | .jitter => match m.jitter with | none => 0 | some j => 2 ^ j.periodsExp
  | _ => 2 ^ m.periodsExp

/-- The stage setting handed to the Edge Timing Unit (R133). -/
def RunContext.etuSetting (c : RunContext) : EtuSetting :=
  ⟨c.mask.edgeMode, c.mask.glitchSetting * Config.filterStep, stagePeriods c.mask c.stage, c.stage⟩

/-- The EFC code a PULL stage drives (R8, R54). -/
def RunContext.pullCode (c : RunContext) : Option (Nat × Nat) :=
  match c.mask.pull, c.stage with
  | some u, .pullLow => some (u.efcLow, u.settleMs)
  | some u, .pullHigh => some (u.efcHigh, u.settleMs)
  | _, _ => none

/-- The run context a dispatch creates (R1, R99, R110). -/
def RunContext.create (q : Request) (m : Mask) (pair : Option PairId) (refs skipped : StationSet) (now : Nat) :
    RunContext where
  request := q
  mask := m
  plan := stagePlan q.kind m
  stage := ((stagePlan q.kind m).head?).getD .frequency
  counted := 0
  rounds := 0
  bands := (runBands q.kind m).map fun b => ⟨b, .undecided, none, none⟩
  spectrum := Vector.replicate 8 ⟨0, 0⟩
  frequency := none
  jitter := none
  glitches := 0
  duty := none
  pullLow := none
  pull := none
  retries := 0
  fails := FailSet.empty
  disturbances := DisturbanceSet.empty
  cause := none
  ending := none
  elapsed := 0
  since := some now
  pair := pair
  refs := refs
  skipped := skipped

/-! ## Small changes of a lane -/

/-- Change the active run of a lane. -/
def Lane.modActive (f : RunContext → RunContext) (l : Lane) : Lane := { l with active := l.active.map f }

/-- The work in progress is stopped and discarded: the unit's count, the interval timer, the holds and the pending
start (R125, R128 step 7, R140). -/
def Lane.discardWork (l : Lane) : Lane :=
  { l with holdQuiet := false, holdPair := false, pending := .none, interval := none, etu := l.etu.stop }

/-- The lane without its active run, work discarded (R128, step 7). -/
def Lane.release (l : Lane) : Lane :=
  { l.discardWork with state := .idle, active := none, connected := none }

/-- The lane is HELD for the named reasons with a pending start (R109). -/
def Lane.hold (quiet pair : Bool) (start : PendingStart) (l : Lane) : Lane :=
  { l with state := .held, holdQuiet := quiet, holdPair := pair, pending := start, interval := none }

/-- The lane enters a working state with its interval timer as given (R109). The pending start is none from then on:
R109 sets it when the lane comes to start, and no rule says when it returns to none (log 25, the model's choice). -/
def Lane.work (st : LaneState) (ends : Option Nat) (l : Lane) : Lane :=
  { l with state := st, holdQuiet := false, holdPair := false, pending := .none, interval := ends }

/-! ## Starting work -/

/-- The level on the input of lane l's Edge Timing Unit: the signal of its connected socket (R108). -/
def State.etuInput (s : State) (l : LaneId) : Bool :=
  match (s.lane l).connected with
  | none => false
  | some k => s.lines.signal[k]

/-- The run's attached pair is READY. -/
def State.pairReady (s : State) (c : RunContext) : Bool :=
  match c.pair with
  | none => false
  | some p => decide ((s.pair p).state = .ready)

/-- The Edge Timing Unit of lane l is started for the run's stage (R133). -/
def startEtu (s : State) (l : LaneId) (c : RunContext) : State :=
  s.modLane l fun x => { x with etu := Etu.start c.etuSetting (s.etuInput l) s.now }

/-- The lane starts an edge stage: a PULL stage first drives the EFC output and waits the settle time, the others
count at once (R111). -/
def startEdge (s : State) (l : LaneId) (c : RunContext) : State :=
  match c.pullCode with
  | some (code, settle) =>
    (s.modSocket c.request.socket fun k => { k with efcOutput := BitVec.ofNat 12 code }).modLane l
      (Lane.work .edge (some (s.now + settle * Config.millisecond)))
  | none => startEtu (s.modLane l (Lane.work .edge none)) l c

/-- The conditions of a start hold: quiet, and the attached pair READY for a segment (the table before R109). -/
def State.canStart (s : State) (c : RunContext) (start : PendingStart) : Bool :=
  s.monitor.quiet && (decide (start = .edgeStage) || s.pairReady c)

/-- The lane starts the work at this event (R109). -/
def startNow (s : State) (l : LaneId) (c : RunContext) : PendingStart → State
  | .none => s
  | .edgeStage => startEdge s l c
  | .settle => s.modLane l (Lane.work .settle (some (s.now + c.segment)))
  | .countedSegment => s.modLane l (Lane.work .correlate (some (s.now + c.segment)))

/-- The pending start of a lane that must wait: a counted segment is never started straight after a wait for the
pair (R109). -/
def State.heldStart (s : State) (c : RunContext) (start : PendingStart) : PendingStart :=
  match start with
  | .countedSegment => if s.pairReady c then .countedSegment else .settle
  | x => x

/-- The lane comes to start work: it starts it, or enters HELD with the reasons that fail (R109). -/
def comeToStart (s : State) (l : LaneId) (start : PendingStart) : State :=
  match (s.lane l).active with
  | none => s
  | some c =>
    if s.canStart c start then startNow s l c start
    else s.modLane l (Lane.hold (!s.monitor.quiet) (!decide (start = .edgeStage) && !s.pairReady c) (s.heldStart c start))

/-- What the lane comes to start for a stage (R110). -/
def startFor : Stage → PendingStart
  | .correlation => .countedSegment
  | _ => .edgeStage

/-! ## Dispatch -/

/-- A socket whose request runs in lane l (R56). -/
def Socket.run (l : LaneId) (k : Socket) : Socket := { k with engagement := .running, lane := some l }

/-- One more run is attached to the pair (R81). -/
def attach (s : State) : Option PairId → State
  | none => s
  | some p => s.modPair p fun x => { x with attachments := x.attachments + 1 }

/-- The lane takes a new run as its active run, connected to its socket (R99, R110). -/
def Lane.take (c : RunContext) (l : Lane) : Lane :=
  { l with active := some c, connected := some c.request.socket, mark := none }

/-- The pair a dispatch attaches the request's run to (R99, step 4). -/
def State.pairFor (s : State) (q : Request) (m : Mask) : Option PairId :=
  if q.band then s.attachChoice m.nominal else none

/-- Dispatch of a granted request into lane l (R99): it leaves the pool, the rings take its reservations, its
socket is connected, its pair attached, its run context created, and its first stage comes to start. -/
def dispatch (s : State) (q : Request) (m : Mask) (l : LaneId) : State :=
  let pair := s.pairFor q m
  let c := RunContext.create q m pair (reservedIn s q m) (skippedBy s q m) s.now
  let t := reserveAll s q m pair
  let t := t.modPool fun p => { p.drop q.ref with lastGranted := q.station }
  let t := t.modSocket q.socket (Socket.run l)
  let t := attach t pair
  let t := t.modLane l (Lane.take c)
  comeToStart t l .edgeStage

/-! ## The arbiter -/

/-- The request a mark names is in the pool and eligible (R102). -/
def State.markStands (s : State) (r : RequestRef) : Bool :=
  match s.queued r with
  | none => false
  | some q => s.eligible q

/-- Marks whose request has left the pool or is not eligible are withdrawn (R102). -/
def withdrawStale (s : State) : State :=
  { s with lanes := Vector.ofFn fun l =>
      match (s.lane l).mark with
      | none => s.lane l
      | some r => if s.markStands r then s.lane l else { s.lane l with mark := none } }

/-- Every mark is withdrawn (R97). -/
def withdrawAll (s : State) : State :=
  { s with lanes := Vector.ofFn fun l => { s.lane l with mark := none } }

/-- One grant: the chosen request to the lowest-numbered usable lane (R98, R99). -/
def grantOne (s : State) : Option State :=
  match s.usableLane, s.grantChoice with
  | some l, some q =>
    match s.maskFor q with
    | none => none
    | some m => some (dispatch s q m l)
  | _, _ => none

/-- Grants while a usable lane and an eligible request remain (R97). -/
def grantLoop : Nat → State → State
  | 0, s => s
  | fuel + 1, s =>
    match grantOne s with
    | none => s
    | some t => grantLoop fuel t

/-- The lane is markable (R101). -/
def Lane.markable (l : Lane) : Bool :=
  decide (l.state = .correlate) && l.slot.isNone && l.mark.isNone &&
  match l.active with
  | none => false
  | some c => decide (c.request.requestClass = .standard) && c.mask.preemptible

/-- The lowest-numbered markable lane. -/
def State.markableLane (s : State) : Option LaneId := allLanes.find? fun l => (s.lane l).markable

/-- A lane carries a mark for the request. -/
def State.marked (s : State) (r : RequestRef) : Bool := allLanes.any fun l => decide ((s.lane l).mark = some r)

/-- One mark: the next eligible EXPRESS request without one, in grant order, on the lowest-numbered markable lane
(R101). -/
def markOne (s : State) : Option State :=
  match s.markableLane, s.pick ((s.eligibleOf .express).filter fun q => !s.marked q.ref) with
  | some l, some q => some (s.modLane l fun x => { x with mark := some q.ref })
  | _, _ => none

/-- Marks until requests or markable lanes run out (R101). -/
def markLoop : Nat → State → State
  | 0, s => s
  | fuel + 1, s =>
    match markOne s with
    | none => s
    | some t => markLoop fuel t

/-- The lane arbiter at the end of an event: stale marks go; if a usable lane and an eligible request exist, every
mark is withdrawn and grants are made; then marks are placed (R97, R101, R102). There are four lanes, so at most
four grants and four marks. -/
def arbitrate (s : State) : State :=
  let t := withdrawStale s
  let u := if t.usableLane.isSome && t.grantChoice.isSome then grantLoop 4 (withdrawAll t) else t
  markLoop 4 u

/-! ## Run end -/

/-- A run is detached from its pair; a pair whose count falls to 0 in READY becomes free (R81, R128 step 3). -/
def detach (s : State) : Option PairId → State
  | none => s
  | some p =>
    plannerIfFree (s.modPair p fun x => { x with attachments := x.attachments - 1 }) p

/-- The EFC output at the end of a PULL CHECK (R54, R128 step 5). -/
def Socket.restoreEfc (k : Socket) : Socket :=
  { k with efcOutput := if k.supply = .on then k.efcCode else 0 }

/-- Step 5 of R128 for a run of this kind. -/
def Socket.endRun (kind : Kind) (k : Socket) : Socket :=
  match kind with
  | .pullCheck => k.disengage.restoreEfc
  | _ => k.disengage

/-- Steps 1 to 6 of the run-end actions (R128) for a run whose ending and cause are set. -/
def runEndActions (s : State) (c : RunContext) : State :=
  let t := commitAll s c
  let t := t.modMask c.request.mask MaskEntry.release
  let t := detach t c.pair
  let t := t.modSocket c.request.socket (Socket.endRun c.request.kind)
  bumpYield t c.request.socket c.verdict.yieldIndex

/-- The run with its ending and abort cause set (R2, R21). -/
def RunContext.ended (c : RunContext) (e : Ending) (cause : Option AbortCause) : RunContext :=
  { c with ending := some e, cause := cause }

/-- The run timer pauses (R115, R123). -/
def RunContext.pause (c : RunContext) (now : Nat) : RunContext :=
  { c with elapsed := c.elapsed + (match c.since with | none => 0 | some t => now - t), since := none }

/-- The run timer runs on from where it paused (R124). -/
def RunContext.runOn (c : RunContext) (now : Nat) : RunContext := { c with since := some now }

/-- The suspended run returns to its lane and comes to start a SETTLE (R124). -/
def resume (s : State) (l : LaneId) (c : RunContext) : State :=
  let t := s.modLane l fun x =>
    { x with active := some (c.runOn s.now), slot := none, connected := some c.request.socket }
  let t := t.modSocket c.request.socket (Socket.run l)
  comeToStart t l .settle

/-- Step 7 of R128 for the active run: the lane resumes the slot's run, or is offered to the arbiter. -/
def freeLane (s : State) (l : LaneId) : State :=
  match (s.lane l).slot with
  | none => arbitrate s
  | some c => arbitrate (resume s l c)

/-- The active run of lane l ends (R125, R128). A lane with no active run finds none to end (R2). -/
def endActive (s : State) (l : LaneId) (e : Ending) (cause : Option AbortCause) : State :=
  match (s.lane l).active with
  | none => s
  | some c => freeLane (runEndActions (s.modLane l Lane.release) (c.ended e cause)) l

/-- The run in lane l's suspend slot is aborted in place (R126). -/
def abortSlot (s : State) (l : LaneId) (cause : AbortCause) : State :=
  match (s.lane l).slot with
  | none => s
  | some c =>
    arbitrate (runEndActions (s.modLane l fun x => { x with slot := none }) (c.ended .aborted (some cause)))

/-- An abort event reaches the request's run, active or suspended (R125, R126). -/
def abortRun (s : State) (r : RequestRef) (cause : AbortCause) : State :=
  match s.laneRunning r with
  | some l => endActive s l .aborted (some cause)
  | none =>
    match s.laneHolding r with
    | some l => abortSlot s l cause
    | none => s

/-- An abort event that reaches the runs of lane l that meet a test: the slot's run first, in place, then the
active one (R127). -/
def abortWhere (test : Option RunContext → Bool) (cause : AbortCause) (s : State) (l : LaneId) : State :=
  let t := if test (s.lane l).slot then abortSlot s l cause else s
  if test (s.lane l).active then endActive t l .aborted (some cause) else t

/-! ## Suspension -/

/-- The lane suspends its run for the request its mark names, which is dispatched into it (R123). -/
def suspend (s : State) (l : LaneId) (c : RunContext) (q : Request) (m : Mask) : State :=
  let kept := c.pause s.now
  let kept := { kept with disturbances := { kept.disturbances with preempted := true } }
  let t := s.modLane l fun x => { x.release with slot := some kept, mark := none }
  let t := t.modSocket c.request.socket fun k => { k with engagement := .suspended, lane := none }
  dispatch t q m l

/-! ## Going on with the plan -/

/-- A stage completed without ending the run: the next stage comes to start, or the last has completed and the run
ends COMPLETED (R4, R110). -/
def advance (s : State) (l : LaneId) : State :=
  match (s.lane l).active with
  | none => s
  | some c =>
    match stageAfter c.stage c.plan with
    | none => endActive s l .completed none
    | some x =>
      arbitrate (comeToStart (s.modLane l (Lane.modActive fun r => { r with stage := x })) l (startFor x))

/-! ## Events offered to a lane -/

/-- The quiet event reaches a lane: a HELD lane removes QUIET, and starts its pending work if no hold is left
(R109). -/
def quietAt (s : State) (l : LaneId) : State :=
  if (s.lane l).state = .held then
    if (s.lane l).holdPair then s.modLane l fun x => { x with holdQuiet := false }
    else comeToStart s l (s.lane l).pending
  else s

/-- A pair's entry into READY reaches a lane: a HELD lane whose run is attached to it removes PAIR, and starts its
pending work if no hold is left (R109, R118). -/
def readyAt (p : PairId) (s : State) (l : LaneId) : State :=
  if (s.lane l).state = .held ∧ attachedTo p (s.lane l).active = true then
    if (s.lane l).holdQuiet then s.modLane l fun x => { x with holdPair := false }
    else comeToStart s l (s.lane l).pending
  else s

/-- A pair's loss of lock in READY reaches a lane whose active run is attached to it (R118, R119). -/
def unlockAt (p : PairId) (s : State) (l : LaneId) : State :=
  if attachedTo p (s.lane l).active then
    match (s.lane l).state with
    | .correlate | .settle =>
      comeToStart (s.modLane l fun x =>
        { x.discardWork with active := x.active.map fun c =>
            { c with disturbances := { c.disturbances with unlock := true } } }) l .settle
    | .held =>
      if (s.lane l).pending = .settle ∨ (s.lane l).pending = .countedSegment then
        s.modLane l fun x => { x with holdPair := true, pending := .settle }
      else s
    | .edge | .idle => s
  else s

/-- The run of an abandoned stage or segment under a motion policy: MOTION, and what the policy adds (R116). -/
def RunContext.shaken (c : RunContext) : RunContext :=
  match c.mask.policy with
  | .abort => { c with disturbances := { c.disturbances with motion := true } }
  | .repeatWork =>
    { c with retries := c.retries + 1, disturbances := { c.disturbances with motion := true, retried := true } }
  | .wait => { c with disturbances := { c.disturbances with motion := true, waited := true } }

/-- The abandonment ends the run: under ABORT, and under REPEAT beyond the retry limit (R116). -/
def RunContext.gaveUp (c : RunContext) : Bool :=
  match c.mask.policy with
  | .abort => true
  | .repeatWork => decide (c.mask.retryLimit < c.retries)
  | .wait => false

/-- The lane abandons its edge stage or counted segment for motion (R116): DISTURBED is bumped, and the run ends or
comes to start the same work again. -/
def abandon (s : State) (l : LaneId) (c : RunContext) (start : PendingStart) : State :=
  let t := s.modLane l fun x => { x.discardWork with active := some c.shaken }
  let t := bumpYield t c.request.socket disturbedIndex
  if c.shaken.gaveUp then endActive t l .disturbed none else comeToStart t l start

/-- A motion assertion reaches a lane (R116, R117). -/
def motionAt (s : State) (l : LaneId) : State :=
  match (s.lane l).active, (s.lane l).state with
  | some c, .edge => abandon s l c .edgeStage
  | some c, .correlate => abandon s l c .countedSegment
  | some _, .settle => comeToStart (s.modLane l Lane.discardWork) l .settle
  | _, _ => s

end Sys2Proof.Machine
end

