-- ==== Sys2Proof/Machine/Ports.lean ====
section
/-!
DEFINITION. The station ports: the transaction (R174 to R176), status and port mode (R180 to R182), and station
reset (R183 to R185).
-/
namespace Sys2Proof.Machine

/-! ## The transaction -/

/-- CSN_n takes a level. -/
def State.select (s : State) (n : StationId) (high : Bool) : State :=
  s.modLines fun x => { x with csn := x.csn.set n high }

/-- CSN_FALL: an idle port that is RUNNING enters RECEIVING; a port in RESETTING or HELD, or held by a device
reset, starts no transaction (R174, R183, R186). -/
def execCsnFall (n : StationId) (s : State) : Host.Outcome State Fault Refusal :=
  .next <|
    if !s.inReset && decide ((s.port n).resetState = .running) && decide ((s.port n).transaction = .idle) then
      (s.select n false).modPort n fun p => { p with transaction := .receiving, answer := none }
    else s.select n false

/-- CSN_RISE: the port returns to IDLE from any transaction state; an incomplete command is not taken, an answer is
cut short, and effects already made stay (R174, R175, R185). -/
def execCsnRise (n : StationId) (s : State) : Host.Outcome State Fault Refusal :=
  .next ((s.select n true).modPort n fun p => { p with transaction := .idle, answer := none })

/-- ANSWER_SHIFTED_OUT: a port whose answer is formed and shifted out enters DISCARDING (R174). -/
def execAnswerShiftedOut (n : StationId) (s : State) : Host.Outcome State Fault Refusal :=
  .next <|
    if (s.port n).transaction = .answering ∧ (s.port n).answer.isSome = true then
      s.modPort n fun p => { p with transaction := .discarding, answer := none }
    else s

/-- FRAME_LENGTH_ERROR: a length byte above 120 is answered FRAME with an empty payload, and no command is taken
(R175). -/
def execFrameLengthError (n : StationId) (length : Byte) (s : State) : Host.Outcome State Fault Refusal :=
  if Config.maxPayload < length.toNat then takeCommand n s (refuse s .frame) else .next s

/-- UNKNOWN_COMMAND: answered OK with no effect, or UNKNOWN with the code when strict is on (R176). -/
def execUnknownCommand (n : StationId) (code : Byte) (_payload : List Byte) (s : State) :
    Host.Outcome State Fault Refusal :=
  takeCommand n s <| if (s.port n).strict then (s, ⟨.unknown, [code]⟩) else (s, ⟨.ok, []⟩)

/-! ## Status and port mode -/

/-- The clear mode bit (R180, R182). -/
def ClearMode.bit : ClearMode → Bool
  | .onRead => false
  | .onAck => true

/-- The number of runs of station n in lanes and suspend slots (R180). -/
def State.runsOf (s : State) (n : StationId) : Nat :=
  (allLanes.map fun l => (ownedBy n (s.lane l).active).toNat + (ownedBy n (s.lane l).slot).toNat).sum

/-- Station n owns socket k. -/
def State.owns (s : State) (n : StationId) (k : SocketId) : Bool := decide ((s.socket k).owner = some n)

/-- The sockets station n owns, bit k for socket k (R180). -/
def State.ownedBits (s : State) (n : StationId) : Nat := bitsOf (allSockets.map fun k => s.owns n k)

/-- The 14 bytes of GET STATUS (R180). -/
def statusPayload (s : State) (n : StationId) : List Byte :=
  bytes8 (s.notices n).bits ++ bytes8 (s.port n).enable.bits ++
  bytes8 (bitsOf [(s.port n).clearMode.bit, (s.port n).strict, s.attnLow n]) ++ bytes8 n.val ++
  bytes8 (s.ring n).readable ++ bytes16 (s.ring n).free ++ bytes8 (s.pool.ofStation n).length ++
  bytes8 (s.runsOf n) ++ bytes16 (s.ownedBits n) ++ bytes16 (s.port n).nextId.toNat ++
  bytes8 (bitsOf [s.monitor.quiet, s.monitor.cutoff])

/-- GET STATUS clears the latched notices it reported in ON_READ mode, and none in ON_ACK (R178). -/
def clearOnRead (s : State) (n : StationId) : State :=
  match (s.port n).clearMode with
  | .onRead => s.latch n fun _ => Latched.empty
  | .onAck => s

/-- GET_STATUS (R180). -/
def execGetStatus (n : StationId) (payload : List Byte) (s : State) : Host.Outcome State Fault Refusal :=
  takeCommand n s <| fixedLength 0 payload s (clearOnRead s n, ⟨.ok, statusPayload s n⟩)

/-- ACK_NOTICES (R181). -/
def execAckNotices (n : StationId) (payload : List Byte) (s : State) : Host.Outcome State Fault Refusal :=
  takeCommand n s <| fixedLength 1 payload s <|
    if 63 < field8 payload 0 then refuse s .range
    else
      let t := s.latch n fun l => l.without (noticesOf (field8 payload 0))
      (t, ⟨.ok, bytes8 (t.notices n).bits⟩)

/-- SET_PORT_MODE (R182): all three fields of the port mode are replaced. -/
def execSetPortMode (n : StationId) (payload : List Byte) (s : State) : Host.Outcome State Fault Refusal :=
  takeCommand n s <| fixedLength 2 payload s <|
    if 3 < field8 payload 0 ∨ 63 < field8 payload 1 then refuse s .range
    else
      (s.modPort n fun p =>
        { p with
          clearMode := if bitOf (field8 payload 0) 0 then .onAck else .onRead
          strict := bitOf (field8 payload 0) 1
          enable := noticesOf (field8 payload 1) },
       ⟨.ok, [byteAt payload 0, byteAt payload 1]⟩)

/-! ## Station reset -/

/-- The port enters RESETTING before step 1 (R183). -/
def Port.beginReset (p : Port) : Port := { p with resetState := .resetting, progress := ResetProgress.start }

/-- STATION_RESET (R185): a station reset of the caller; the transaction stays in ANSWERING, and the answer is
formed after step 6. -/
def execStationReset (n : StationId) (payload : List Byte) (s : State) : Host.Outcome State Fault Refusal :=
  if payload.length = 0 then
    .next <| if s.takes n then s.modPort n fun p => { p.beginReset with transaction := .answering, answer := none } else s
  else takeCommand n s (refuse s .frame)

/-- SRSTN_n takes a level. -/
def State.setSrstn (s : State) (n : StationId) (high : Bool) : State :=
  s.modLines fun x => { x with srstn := x.srstn.set n high }

/-- The low of SRSTN_n that begins at this event: its 1 µs and the port's reset state at its beginning (R183). -/
def State.newLow (s : State) (n : StationId) (endsAt : Nat) : ResetLow :=
  ⟨endsAt, decide ((s.port n).resetState = .running)⟩

/-- The low has lasted 1 µs: one that began in RUNNING starts a station reset, which drops the transaction; one that
began in RESETTING or HELD starts none (R183). -/
def Port.lowLasted (low : ResetLow) (p : Port) : Port :=
  if low.fromRunning then { p.beginReset with transaction := .idle, answer := none, resetLow := none }
  else { p with resetLow := none }

/-- SRSTN_ASSERTION (R183, log 21): the fall of the input starts its 1 µs; at its end the low is taken. An end without a
fall before it stands for both. During a device reset only the level changes. -/
def execSrstnAssertion (x : SrstnLow) (s : State) : Host.Outcome State Fault Refusal :=
  let n := x.station
  let t := s.setSrstn n false
  .next <|
    if s.inReset then t
    else match x.held, s.lines.srstn[n], (s.port n).resetLow with
      | false, true, _ => t.modPort n fun p => { p with resetLow := some (s.newLow n (s.now + Config.resetLowTime)) }
      | false, false, _ => s
      | true, true, _ => t.modPort n (Port.lowLasted (s.newLow n s.now))
      | true, false, none => s
      | true, false, some low => (s.reach low.endsAt).modPort n (Port.lowLasted low)

/-- SRSTN_RELEASE (R183): the input is high, and a low that has not lasted 1 µs is forgotten; a HELD port enters RUNNING.
During a device reset the port stays held until its end (R186). -/
def execSrstnRelease (n : StationId) (s : State) : Host.Outcome State Fault Refusal :=
  let t := (s.setSrstn n true).modPort n fun p => { p with resetLow := none }
  .next <|
    if !s.inReset && decide ((s.port n).resetState = .held) then t.modPort n fun p => { p with resetState := .running }
    else t

/-- The station's reset is in progress and this step is its next one (R184). -/
def State.atStep (s : State) (n : StationId) (x : ResetStep) : Bool :=
  decide ((s.port n).resetState = .resetting) && decide ((s.port n).progress.next = x)

/-- The step is done: its count is kept and the next step follows (R184, R185). -/
def State.stepDone (s : State) (n : StationId) (f : ResetProgress → ResetProgress) : State :=
  s.modPort n fun p => { p with progress := f p.progress }

/-- A step of station n's reset: it acts only in its place in the order of R184 (log 12). -/
def resetStep (n : StationId) (x : ResetStep) (s : State) (act : State) : Host.Outcome State Fault Refusal :=
  if s.atStep n x then .next act else .next s

/-- Every request of the list leaves the pool (R91, R93). -/
def leaveAll (s : State) (qs : List Request) : State := qs.foldl leavePool s

/-- RESET_STEP_POOL (R93): every request of the station leaves the pool without a record. -/
def execResetStepPool (n : StationId) (s : State) : Host.Outcome State Fault Refusal :=
  resetStep n .pool s <|
    (arbitrate (leaveAll s (s.pool.ofStation n))).stepDone n fun x =>
      { x with next := .lanes, requests := (s.pool.ofStation n).length }

/-- RESET_STEP_LANES (R129): every run of the station is aborted STATION_RESET, lane by lane, in a lane that holds
two of them the suspended one first (R127). -/
def execResetStepLanes (n : StationId) (s : State) : Host.Outcome State Fault Refusal :=
  resetStep n .lanes s <|
    (allLanes.foldl (abortWhere (ownedBy n) .stationReset) s).stepDone n fun x =>
      { x with next := .ring, runs := s.runsOf n }

/-- RESET_STEP_RING (R158). -/
def execResetStepRing (n : StationId) (s : State) : Host.Outcome State Fault Refusal :=
  resetStep n .ring s <|
    (arbitrate (emptyRing s n)).stepDone n fun x =>
      { x with
        next := .sockets
        entries := (s.ring n).entries.length
        copies := ((s.ring n).entries.filter fun e => e.record.isNone && decide (e.role = .copy)).length }

/-- A socket its owner gives up: supply OFF, powered-for 0, EFC code and output 0, no owner; presence, load
generation and flags are kept (R48, R65). -/
def Socket.giveUp (k : Socket) : Socket :=
  { k with supply := .off, poweredFor := 0, efcCode := 0, efcOutput := 0, owner := none }

/-- Every socket station n owns is given up (R65). -/
def releaseOwned (s : State) (n : StationId) : State :=
  { s with
    sockets := Vector.ofFn fun k => if s.owns n k then (s.socket k).giveUp else s.socket k }

/-- RESET_STEP_SOCKETS (R65): every socket the station owns is released. -/
def execResetStepSockets (n : StationId) (s : State) : Host.Outcome State Fault Refusal :=
  resetStep n .sockets s <|
    (arbitrate (releaseOwned s n)).stepDone n fun x =>
      { x with next := .port, sockets := (allSockets.filter fun k => s.owns n k).length }

/-- The port mode and latched notices of a station reset (R173, R184). -/
def Port.resetMode (p : Port) : Port :=
  { p with clearMode := .onRead, strict := false, enable := Notices.all, latched := Latched.empty }

/-- RESET_STEP_PORT (R184, step 5). -/
def execResetStepPort (n : StationId) (s : State) : Host.Outcome State Fault Refusal :=
  resetStep n .port s <| (s.modPort n Port.resetMode).stepDone n fun x => { x with next := .requestIds }

/-- The five counts of a STATION RESET answer (R185). -/
def resetPayload (x : ResetProgress) : List Byte :=
  bytes8 x.requests ++ bytes8 x.runs ++ bytes8 x.sockets ++ bytes8 x.entries ++ bytes8 x.copies

/-- The port after step 6 with SRSTN high: RUNNING, and a STATION RESET transaction still open gets its answer
(R183, R185). -/
def Port.endReset (p : Port) : Port :=
  { p with
    resetState := .running
    answer := if p.transaction = .answering then some ⟨.ok, resetPayload p.progress⟩ else none }

/-- The port after step 6 with SRSTN low: HELD, any transaction dropped and its answer lost (R183). -/
def Port.endHeld (p : Port) : Port := { p with resetState := .held, transaction := .idle, answer := none }

/-- RESET_STEP_REQUEST_IDS (R88, R184 step 6): the request id counter returns to 0, and the port enters RUNNING, or
HELD while SRSTN_n is low, however short the low as yet. -/
def execResetStepRequestIds (n : StationId) (s : State) : Host.Outcome State Fault Refusal :=
  resetStep n .requestIds s <|
    let t := s.modPort n fun p => { p with nextId := 0 }
    if s.lines.srstn[n] then t.modPort n Port.endReset else t.modPort n Port.endHeld

end Sys2Proof.Machine
end

