-- ==== Sys2Proof/Machine/Lanes.lean ====
section
/-!
DEFINITION. The lanes' commands and events (06_lanes.md, R106 to R131): the counted segment with its round-end work
(R11 to R16, R113), the SETTLE (R114), the EFC settle wait (R111), the run timer (R115) and QUERY LANE (R131).
-/
namespace Sys2Proof.Machine

/-! ## Estimates and rounds -/

/-- The decades d1 to d2. -/
def decadesFrom (d1 d2 : Nat) : List (Fin 8) := allDecades.filter fun d => decide (d1 ≤ d.val) && decide (d.val ≤ d2)

/-- The sum of two cross-spectra. -/
def CrossSpectrum.add (x y : CrossSpectrum) : CrossSpectrum := ⟨x.re + y.re, x.im + y.im⟩

/-- The average of n segments that sum to z lies at or above k tenths of a dB over -200.05 dBc/Hz: with
|z|² = re² + im² and the unit 10^-40 of `CrossSpectrum`, |z| / (n·10^40) ≥ 10^((k - 2000.5)/100), raised to the power
200 (log 6). -/
def reachesLevel (z : CrossSpectrum) (n k : Nat) : Bool :=
  decide ((n * 10 ^ 40) ^ 200 * 100 ^ k ≤ (z.re * z.re + z.im * z.im).natAbs ^ 100 * 10 ^ 4001)

/-- The level of the average of n segments that sum to z, in tenths of dBc/Hz, to the nearest integer and held within
-2000 to -300 (R11; log 6). -/
def averagedLevel (z : CrossSpectrum) (n : Nat) : Int :=
  holdInt (-2000) (-300) ((largestBits (reachesLevel z n) 11 0 : Nat) - 2000)

/-- The estimate of a band: the highest averaged level of its decades (R11). -/
def estimateOf (spectrum : Vector CrossSpectrum 8) (n : Nat) (b : Band) : Option Int :=
  ((decadesFrom b.first b.last).map fun d => averagedLevel spectrum[d] n).max?

/-- The correlator measures the decade: it lies from the lowest decade of the first band to the last of the last
(R10). -/
def measures (bands : List BandRun) (d : Fin 8) : Bool :=
  match bands.head?, bands.getLast? with
  | some a, some z => decide (a.band.first ≤ d.val) && decide (d.val ≤ z.band.last)
  | _, _ => false

/-- The segment's cross-spectrum is added in every decade the correlator measures (R11). -/
def accumulate (spectrum segment : Vector CrossSpectrum 8) (bands : List BandRun) : Vector CrossSpectrum 8 :=
  Vector.ofFn fun d => if measures bands d then CrossSpectrum.add spectrum[d] segment[d] else spectrum[d]

/-- The run after a counted segment: the accumulated cross-spectrum, the count and the estimates (R11, R113 step
1). -/
def RunContext.addSegment (segment : Vector CrossSpectrum 8) (c : RunContext) : RunContext :=
  let sum := accumulate c.spectrum segment c.bands
  { c with
    counted := c.counted + 1
    spectrum := sum
    bands := c.bands.map fun b => { b with estimate := estimateOf sum (c.counted + 1) b.band } }

/-- The round that ends at this count of segments: k when the count is 2^k (R12). -/
def roundEnded (counted : Nat) : Option Nat := if counted = 2 ^ counted.log2 then some counted.log2 else none

/-- The effective floor of a band at the end of round k (R13). -/
def BandRun.setFloor (floors : Vector Int 8) (k : Nat) (b : BandRun) : BandRun :=
  { b with floor := (worstFloor floors b.band).map fun f => f - 15 * (k : Int) }

/-- The decision of R14 for an OPEN band. -/
def BandRun.decided (d : BandPart) (b : BandRun) : BandRun :=
  match b.state, b.estimate, b.floor with
  | .undecided, some e, some f =>
    if b.band.limit + d.guard ≤ e ∧ f ≤ b.band.limit - d.margin then { b with state := .fail }
    else if e ≤ b.band.limit - d.guard ∧ f ≤ b.band.limit - d.margin then { b with state := .pass }
    else b
  | _, _, _ => b

/-- The closure of R15 for a band still OPEN. -/
def BandRun.closed (d : BandPart) (b : BandRun) : BandRun :=
  match b.state, b.floor with
  | .undecided, some f => { b with state := if b.band.limit - d.margin < f then .unreached else .marginal }
  | _, _ => b

/-- The band is FAIL. -/
def BandRun.failed (b : BandRun) : Bool := decide (b.state = .fail)

/-- The band is PASS or FAIL. -/
def BandRun.settled (b : BandRun) : Bool := decide (b.state = .pass) || b.failed

/-- The bands after the decisions and closures of round k (R14, R15). -/
def roundBands (d : BandPart) (floors : Vector Int 8) (k : Nat) (bands : List BandRun) : List BandRun :=
  let floored := bands.map (BandRun.setFloor floors k)
  let decided := if d.minRound ≤ k then floored.map (BandRun.decided d) else floored
  if k = d.maxRound then decided.map (BandRun.closed d) else decided

/-- The run after the round-end work of round k (R12 to R15, R19). -/
def RunContext.endRound (d : BandPart) (floors : Vector Int 8) (k : Nat) (c : RunContext) : RunContext :=
  let bands := roundBands d floors k c.bands
  { c with
    rounds := c.rounds + 1
    bands := bands
    fails := { c.fails with band := c.fails.band || bands.any BandRun.failed } }

/-- Correlation ends after round k (R16). -/
def RunContext.correlationEnds (d : BandPart) (k : Nat) (c : RunContext) : Bool :=
  c.bands.all BandRun.settled || (c.mask.failFast && c.bands.any BandRun.failed) || decide (k = d.maxRound)

/-- The floor table the run reads: that of its attached pair, as it stands (R13, R18). -/
def State.floorsFor (s : State) (c : RunContext) : Option (Vector Int 8) := c.pair.map fun p => (s.pair p).floors

/-- The run after a counted completion, with whether correlation has ended (R113, steps 1 and 2). -/
def countSegment (s : State) (segment : Vector CrossSpectrum 8) (c : RunContext) : RunContext × Bool :=
  let a := c.addSegment segment
  match roundEnded a.counted, a.mask.band, s.floorsFor a with
  | some k, some d, some floors => (a.endRound d floors k, (a.endRound d floors k).correlationEnds d k)
  | _, _, _ => (a, false)

/-! ## Segment completions -/

/-- The request a lane's mark names, with the contents of its mask. -/
def State.markedRequest (s : State) (l : LaneId) : Option (Request × Mask) :=
  match (s.lane l).mark with
  | none => none
  | some r =>
    match s.queued r with
    | none => none
    | some q => (s.maskFor q).map fun m => (q, m)

/-- Steps 3 and 4 of R113: a marked lane suspends its run, any other comes to start the next counted segment. -/
def afterCount (s : State) (l : LaneId) (c : RunContext) : State :=
  match s.markedRequest l with
  | some (q, m) => arbitrate (suspend s l c q m)
  | none => arbitrate (comeToStart s l .countedSegment)

/-- A counted segment with this cross-spectrum completes in lane l (R113). -/
def completeCounted (s : State) (l : LaneId) (segment : Vector CrossSpectrum 8) (c : RunContext) : State :=
  let r := countSegment s segment c
  let t := s.modLane l fun x => { x with active := some r.1, interval := none }
  if r.2 then endActive t l .completed none else afterCount t l r.1

/-- The work of lane l that its interval timer ends: its run and the end of the interval, when the lane is in this
state (R107). -/
def Lane.timed (st : LaneState) (l : Lane) : Option (RunContext × Nat) :=
  match l.active, l.interval with
  | some c, some t => if l.state = st then some (c, t) else none
  | _, _ => none

/-- COUNTED_SEGMENT_COMPLETION (R113). -/
def execCountedSegmentCompletion (l : LaneId) (segment : Vector CrossSpectrum 8) (s : State) :
    Host.Outcome State Fault Refusal :=
  .next <|
    match (s.lane l).timed .correlate with
    | none => s
    | some (c, t) => completeCounted (s.reach t) l segment c

/-- SETTLE_COMPLETION (R114): the lane comes to start a counted segment. -/
def execSettleCompletion (l : LaneId) (s : State) : Host.Outcome State Fault Refusal :=
  .next <|
    match (s.lane l).timed .settle with
    | none => s
    | some (_, t) => arbitrate (comeToStart (s.reach t) l .countedSegment)

/-- EFC_SETTLE_EXPIRY (R111): the settle wait of a PULL stage is over and the count starts. -/
def execEfcSettleExpiry (l : LaneId) (s : State) : Host.Outcome State Fault Refusal :=
  .next <|
    match (s.lane l).timed .edge with
    | none => s
    | some (c, t) => startEtu ((s.reach t).modLane l fun x => { x with interval := none }) l c

/-- The time at which a run's timer reaches its mask's run time limit; none while it is paused (R115). -/
def RunContext.expiry (c : RunContext) : Option Nat :=
  c.since.map fun t => t + (c.mask.runLimit * Config.second - c.elapsed)

/-- RUN_TIMER_EXPIRY (R115, R22): the active run ends TIMEOUT. -/
def execRunTimerExpiry (l : LaneId) (s : State) : Host.Outcome State Fault Refusal :=
  .next <|
    match (s.lane l).active.bind RunContext.expiry with
    | none => s
    | some t => endActive (s.reach t) l .timeout none

/-! ## Reading a lane -/

/-- Bytes 5 to 27 of QUERY LANE (R131). -/
def activeBytes (now : Nat) : Option RunContext → List Byte
  | none =>
    bytes8 255 ++ bytes16 65535 ++ bytes8 255 ++ bytes8 255 ++ bytes16 0 ++ bytes8 0 ++ bytes8 0 ++ bytes16 0 ++
    bytes8 255 ++ bytes8 0 ++ bytes8 0 ++ bytes8 0 ++ List.replicate 8 255
  | some c =>
    bytes8 c.request.station.val ++ bytes16 c.request.id.toNat ++ bytes8 c.request.kind.code ++
    bytes8 c.stage.code ++ bytes16 c.counted ++ bytes8 c.rounds ++ bytes8 c.retries ++ bytes16 (c.seconds now) ++
    bytes8 (pairCode 255 c.pair) ++ bytes8 c.fails.bits ++ bytes8 c.disturbances.bits ++ bytes8 c.bands.length ++
    ((c.bands.map fun (b : BandRun) => BitVec.ofNat 8 b.state.code) ++ List.replicate 8 255).take 8

/-- Bytes 28 to 36 of QUERY LANE (R131). For an empty slot R131 gives the none values of bytes 28 to 31 alone; the
counts and the run timer of bytes 32 to 36 are then sent as 0 (log 24, the model's choice). -/
def slotBytes (now : Nat) : Option RunContext → List Byte
  | none => bytes8 255 ++ bytes16 65535 ++ bytes8 255 ++ bytes16 0 ++ bytes8 0 ++ bytes16 0
  | some c =>
    bytes8 c.request.station.val ++ bytes16 c.request.id.toNat ++ bytes8 c.request.socket.val ++ bytes16 c.counted ++
    bytes8 c.rounds ++ bytes16 (c.seconds now)

/-- The 40 bytes of QUERY LANE (R131). -/
def lanePayload (s : State) (l : LaneId) : List Byte :=
  let x := s.lane l
  bytes8 l.val ++ bytes8 x.state.code ++ bytes8 (bitsOf [x.holdQuiet, x.holdPair]) ++ bytes8 x.pending.code ++
  bytes8 (numberOr 255 x.connected) ++ activeBytes s.now x.active ++ slotBytes s.now x.slot ++
  bytes8 (match x.mark with | none => 255 | some r => r.station.val) ++
  bytes16 (match x.mark with | none => 65535 | some r => r.id.toNat)

/-- QUERY_LANE (R131). -/
def execQueryLane (n : StationId) (payload : List Byte) (s : State) : Host.Outcome State Fault Refusal :=
  takeCommand n s <| fixedLength 1 payload s <|
    match laneOf (field8 payload 0) with
    | none => refuse s .range
    | some l => (s, ⟨.ok, lanePayload s l⟩)

end Sys2Proof.Machine
end

