-- ==== Sys2Proof/Machine/Etu.lean ====
section
/-!
DEFINITION. The Edge Timing Units' events (R134, R138, R139) and the decisions a run makes at a window close
(R5, R7, R8, R146).
-/
namespace Sys2Proof.Machine

/-! ## Decisions at the window close -/

/-- The run after a FREQUENCY window (R5, R141). -/
def RunContext.takeFrequency (e : Etu) (c : RunContext) : RunContext :=
  { c with frequency := some (offsetPpb e.periods e.stats.span c.mask.nominal) }

/-- The frequency result lies beyond the mask's tolerance (R5). -/
def RunContext.offFrequency (c : RunContext) : Bool :=
  match c.frequency with
  | none => false
  | some f => decide (c.mask.tolerance * 1000 < f.natAbs)

/-- The fail set after the comparisons of R7. -/
def jitterFails (j : JitterPart) (r : JitterResult) (glitches : Nat) (f : FailSet) : FailSet :=
  { f with
    jitterRms := f.jitterRms || decide (j.rmsLimit < r.rms)
    jitterPp := f.jitterPp || decide (j.ppLimit < r.pp)
    glitch := f.glitch || decide (j.glitchLimit < glitches) }

/-- The jitter figures of a window (R142). -/
def jitterOf (e : Etu) : JitterResult := ⟨rmsJitter e.periods e.stats.span e.stats.squares, ppJitter e.stats⟩

/-- The run after a JITTER window (R7, R142 to R144). -/
def RunContext.takeJitter (e : Etu) (c : RunContext) : RunContext :=
  { c with
    jitter := some (jitterOf e)
    glitches := e.glitches
    duty := if c.mask.edgeMode = .both then some (dutyCycle e.stats) else none
    fails := match c.mask.jitter with
      | none => c.fails
      | some j => jitterFails j (jitterOf e) e.glitches c.fails }

/-- The run after a PULL LOW window: span and period count are held (R145). -/
def RunContext.takePullLow (e : Etu) (c : RunContext) : RunContext :=
  { c with pullLow := some (e.stats.span, e.periods) }

/-- The run after a PULL HIGH window (R8, R145). -/
def RunContext.takePullHigh (e : Etu) (c : RunContext) : RunContext :=
  match c.pullLow, c.mask.pull with
  | some low, some u =>
    let pull := pullPpm low (e.stats.span, e.periods) c.mask.nominal
    { c with pull := some pull, fails := { c.fails with pull := c.fails.pull || decide (pull < u.minPull) } }
  | _, _ => c

/-- What the run takes from the window of its stage (R146). -/
def RunContext.takeWindow (e : Etu) (c : RunContext) : RunContext :=
  match c.stage with
  | .frequency => c.takeFrequency e
  | .jitter => c.takeJitter e
  | .pullLow => c.takePullLow e
  | .pullHigh => c.takePullHigh e
  | .correlation => c

/-- How the stage's decision ends the run, if it does before the plan's end (R5, R7). -/
def RunContext.stageEnding (c : RunContext) : Option Ending :=
  match c.stage with
  | .frequency => if c.offFrequency then some .offFrequency else none
  | .jitter => if c.fails.any && c.mask.failFast then some .completed else none
  | .pullLow => none
  | .pullHigh => none
  | .correlation => none

/-- The window of lane l's unit closes (R138): the unit stops, the run takes the results and applies the stage's
decision, and goes on with its plan or ends (R4, R111). -/
def closeWindow (s : State) (l : LaneId) (e : Etu) : State :=
  match (s.lane l).active with
  | none => s.modLane l fun x => { x with etu := e.close }
  | some c =>
    let t := s.modLane l fun x => { x with etu := e.close, active := some (c.takeWindow e) }
    match (c.takeWindow e).stageEnding with
    | some x => endActive t l x none
    | none => advance t l

/-! ## Edges -/

/-- An edge is accepted at lane l's unit: the window closes at the edge that ends its last period (R134, R138). -/
def acceptEdge (s : State) (l : LaneId) (level : Bool) (stamp : Stamp) : State :=
  let e := (s.lane l).etu.accept level stamp s.now
  if (s.lane l).etu.closes e then closeWindow s l e else s.modLane l fun x => { x with etu := e }

/-- A transition starts a qualification for the filter width (R134). -/
def Etu.qualify (stamp : Stamp) (now : Nat) (e : Etu) : Etu :=
  { e with qualification := some ⟨stamp, now + e.width⟩ }

/-- The input of lane l's unit takes a level: away from the filtered level it starts a qualification, or is accepted
at once with a width of 0; back to it, it drops the qualification as a glitch. A unit in STOPPED takes nothing
(R133, R134). -/
def inputTransition (s : State) (l : LaneId) (level : Bool) (stamp : Stamp) : State :=
  let e := (s.lane l).etu
  if e.active then
    if level = e.filtered then
      if e.qualification.isSome then s.modLane l fun x => { x with etu := x.etu.glitch } else s
    else if e.width = 0 then acceptEdge s l level stamp
    else s.modLane l fun x => { x with etu := x.etu.qualify stamp s.now }
  else s

/-- The lane the input matrix connects socket k to (R108). -/
def State.laneOn (s : State) (k : SocketId) : Option LaneId :=
  allLanes.find? fun l => decide ((s.lane l).connected = some k)

/-- ETU_INPUT_TRANSITION (R134): the signal of socket k takes this level when the timestamp counter reads `stamp`.
During a device reset only the level changes. -/
def execEtuInputTransition (k : SocketId) (high : Bool) (stamp : Stamp) (s : State) :
    Host.Outcome State Fault Refusal :=
  let t := s.modLines fun x => { x with signal := x.signal.set k high }
  .next <|
    if s.inReset || decide (s.lines.signal[k] = high) then t
    else
      match s.laneOn k with
      | none => t.reachStamp stamp
      | some l => inputTransition (t.reachStamp stamp) l high stamp

/-- FILTER_WIDTH_EXPIRY (R134): the input has held for the width, and the edge is accepted with the timestamp of its
transition. -/
def execFilterWidthExpiry (l : LaneId) (s : State) : Host.Outcome State Fault Refusal :=
  .next <|
    match (s.lane l).etu.qualification with
    | none => s
    | some q =>
      if (s.lane l).etu.active then acceptEdge (s.reach q.endsAt) l (!(s.lane l).etu.filtered) q.stamp else s

/-- EDGE_TIMEOUT (R139): the unit discards its count and stops, and the run ends NO_SIGNAL (R6). -/
def execEdgeTimeout (l : LaneId) (s : State) : Host.Outcome State Fault Refusal :=
  .next <|
    match (s.lane l).etu.timeout with
    | none => s
    | some t => endActive ((s.reach t).modLane l fun x => { x with etu := x.etu.stop }) l .noSignal none

end Sys2Proof.Machine
end

