-- ==== Sys2Proof/Machine/Masks.lean ====
section
/-!
DEFINITION. The mask table's commands (02_masks.md, R33 to R37).
-/
namespace Sys2Proof.Machine

/-- A RANGE answer of the mask table: the first field that failed, and the band index or 255 (R34, R35, R36). -/
def fieldRange (field band : Nat) : Answer := ⟨.range, bytes8 field ++ bytes8 band⟩

/-- A band part is present and the payload ends before its band count byte (R33, check 4). -/
def bandCountMissing (b : List Byte) : Bool := partPresent b 1 && decide (b.length ≤ bandOffset b + 4)

/-- A band part is present and its band count is 0 or above 8 (R34, field 3). -/
def bandCountBad (b : List Byte) : Bool := partPresent b 1 && (decide (bandCount b = 0) || decide (8 < bandCount b))

/-- Checks 4 to 6 of WRITE MASK: the answer of the first that fails (R33, R34). -/
def bodyError (b : List Byte) : Option Answer :=
  if 7 < field8 b 17 then some (fieldRange 2 255)
  else if bandCountMissing b then some ⟨.frame, []⟩
  else if bandCountBad b then some (fieldRange 3 255)
  else if b.length ≠ impliedLength b then some ⟨.frame, []⟩
  else ((maskChecks b).find? FieldCheck.fails).map fun c => fieldRange c.field c.band

/-- New contents, or none for an erase; the version rises by 1 (R33, R35, R37). -/
def MaskEntry.replace (contents : Option Mask) (e : MaskEntry) : MaskEntry :=
  { e with contents := contents, version := e.version + 1 }

/-- The OK payload of WRITE MASK and ERASE MASK: the mask id and the new version. -/
def versionPayload (s : State) (m : MaskId) : List Byte := bytes8 m.val ++ [(s.mask m).version]

/-- The entry of mask m is written or erased, whole (R33, R35). -/
def replaceMask (s : State) (m : MaskId) (contents : Option Mask) : State × Answer :=
  let t := s.modMask m (MaskEntry.replace contents)
  (t, ⟨.ok, versionPayload t m⟩)

/-- WRITE MASK after its length check (R33, checks 2 to 6). -/
def writeMask (m : MaskId) (b : List Byte) (s : State) : State × Answer :=
  if 0 < (s.mask m).refCount then refuse s .inUse
  else
    match bodyError b with
    | some a => (s, a)
    | none => replaceMask s m (some (maskFields b))

/-- WRITE_MASK (R33). -/
def execWriteMask (n : StationId) (payload : List Byte) (s : State) : Host.Outcome State Fault Refusal :=
  takeCommand n s <|
    if payload.length < 18 then refuse s .frame
    else
      match maskOf (field8 payload 0) with
      | none => (s, fieldRange 1 255)
      | some m => writeMask m payload s

/-- ERASE_MASK (R35). -/
def execEraseMask (n : StationId) (payload : List Byte) (s : State) : Host.Outcome State Fault Refusal :=
  takeCommand n s <| fixedLength 1 payload s <|
    match maskOf (field8 payload 0) with
    | none => (s, fieldRange 1 255)
    | some m =>
      if (s.mask m).contents = none then refuse s .noSuch
      else if 0 < (s.mask m).refCount then refuse s .inUse
      else replaceMask s m none

/-- The answer of READ MASK for mask m (R36). -/
def readMask (s : State) (m : MaskId) : Answer :=
  match (s.mask m).contents with
  | none => ⟨.noSuch, bytes8 m.val ++ bytes8 0 ++ [(s.mask m).version] ++ bytes8 0⟩
  | some c => ⟨.ok, bytes8 m.val ++ bytes8 1 ++ [(s.mask m).version] ++ bytes8 (s.mask m).refCount ++ maskBody c⟩

/-- READ_MASK (R36). -/
def execReadMask (n : StationId) (payload : List Byte) (s : State) : Host.Outcome State Fault Refusal :=
  takeCommand n s <| fixedLength 1 payload s <|
    match maskOf (field8 payload 0) with
    | none => (s, fieldRange 1 255)
    | some m => (s, readMask s m)

end Sys2Proof.Machine
end

