-- ==== Sys2Proof/Machine/PairEvents.lean ====
section
/-!
DEFINITION. The pair's moves that reach lanes, the pool and the planner: a failed attempt (R73), FAULT (R80), READY
(R77) and the loss of lock (R78).
-/
namespace Sys2Proof.Machine

/-- The fields of a pair that enters FAULT: nothing queued, every timer stopped (R80). -/
def Pair.faulted (p : Pair) : Pair := { p.stopTimers with state := .fault, queue := [] }

/-- A pair enters FAULT (R80): PAIR at every port, its attached runs aborted PAIR_FAULT, then a planner pass
(R103). -/
def enterFault (s : State) (p : PairId) : State :=
  let t := s.modPair p Pair.faulted
  let t := t.latchAll fun l => { l with pair := true }
  let t := allLanes.foldl (abortWhere (attachedTo p) .pairFault) t
  plannerPass t

/-- The fields of a pair whose attempt has failed (R73). -/
def Pair.failed (why : PairFailure) (p : Pair) : Pair :=
  { p.stopTimers with lastFailure := why, attempts := p.attempts + 1, calibrated := false, queue := [] }

/-- An attempt fails (R73): the third without a READY takes the pair to FAULT, any other programs it again. -/
def failAttempt (s : State) (p : PairId) (why : PairFailure) : State :=
  let t := s.modPair p (Pair.failed why)
  if 3 ≤ (t.pair p).attempts then enterFault t p else linkGrant (t.modPair p (Pair.program p))

/-- The fields of a pair that enters READY (R77). -/
def Pair.readied (p : Pair) : Pair :=
  { p.stopTimers with state := .ready, attempts := 0, firstLock := false, lastReadyRange := p.range }

/-- A pair enters READY (R77): its lanes take the entry, the pool reconsiders and grants, and for a pair that entered
with no run attached the planner makes a pass on the state those grants leave. -/
def enterReady (s : State) (p : PairId) : State :=
  let t := s.modPair p Pair.readied
  let t := arbitrate (allLanes.foldl (readyAt p) t)
  if (s.pair p).attachments = 0 then plannerPass t else t

/-- A lock line of the pair falls in SETTLING, CALIBRATING or READY: it enters RELOCKING, and a loss from READY
reaches its lanes (R78, R119). In other states the fall has no effect (R70, R74, R78, R80). -/
def loseLock (s : State) (p : PairId) : State :=
  match (s.pair p).state with
  | .ready => allLanes.foldl (unlockAt p) (s.modPair p (Pair.relock s.now))
  | .settling => s.modPair p (Pair.relock s.now)
  | .calibrating => s.modPair p (Pair.relock s.now)
  | .off => s
  | .programming => s
  | .locking => s
  | .relocking => s
  | .fault => s

/-- A rise completes the lock condition of a pair in LOCKING or RELOCKING (R74, R79). -/
def gainLock (s : State) (p : PairId) : State :=
  match (s.pair p).state with
  | .locking => s.modPair p fun x => x.settleFor s.now x.settleInterval
  | .relocking => s.modPair p (Pair.settleFor s.now Config.shortSettle)
  | .off => s
  | .programming => s
  | .settling => s
  | .calibrating => s
  | .ready => s
  | .fault => s

end Sys2Proof.Machine
end

