-- ==== Sys2Proof/Machine/Pairs.lean ====
section
/-!
DEFINITION. The reference pairs' commands and events (04_reference_pairs_and_the_management_link.md, R66 to R84).
-/
namespace Sys2Proof.Machine

/-! ## Commands -/

/-- The checks of TUNE PAIR that answer BUSY (R83, checks 3 and 4). -/
def Pair.busy (p : Pair) : Bool := decide (0 < p.attachments) || p.state.transient

/-- The BUSY payload of TUNE PAIR: pair number, state and attachment count (R83). -/
def busyPayload (s : State) (p : PairId) : List Byte :=
  bytes8 p.val ++ bytes8 (s.pair p).state.code ++ bytes8 (s.pair p).attachments

/-- The OK payload of TUNE PAIR: pair number, state, range code and tuning count (R83). -/
def tunedPayload (s : State) (p : PairId) : List Byte :=
  bytes8 p.val ++ bytes8 (s.pair p).state.code ++ bytes8 (rangeByte (s.pair p).range) ++
  bytes16 (s.pair p).tunings.toNat

/-- A station's tuning is accepted: no retune record (R105), and a planner pass if the pair leaves FAULT (R80,
R103). -/
def stationTune (s : State) (p : PairId) (f : Nat) : State :=
  let t := acceptTuning (s.setRetune p none) p f
  if (s.pair p).state = .fault then plannerPass t else t

/-- TUNE PAIR on pair p (R83, checks 2 to 4). -/
def tunePair (s : State) (p : PairId) (f : Nat) : State × Answer :=
  if f < 1000000 ∨ 200000000 < f then refuse s .range
  else if (s.pair p).busy then (s, ⟨.busy, busyPayload s p⟩)
  else (stationTune s p f, ⟨.ok, tunedPayload (stationTune s p f) p⟩)

/-- TUNE_PAIR (R83). -/
def execTunePair (n : StationId) (payload : List Byte) (s : State) : Host.Outcome State Fault Refusal :=
  takeCommand n s <| fixedLength 5 payload s <|
    match pairOf (field8 payload 0) with
    | none => refuse s .range
    | some p => tunePair s p (field32 payload 1)

/-- The floor table as QUERY PAIR lists it (R82). -/
def floorBytes (floors : Vector Int 8) : List Byte := allDecades.flatMap fun d => bytes16 (pattern16 floors[d])

/-- The 30 bytes of QUERY PAIR (R82). -/
def pairPayload (s : State) (p : PairId) : List Byte :=
  let x := s.pair p
  bytes8 p.val ++ bytes8 x.state.code ++ bytes32 (x.tuned.getD 0) ++ bytes8 (rangeByte x.range) ++
  bytes8 x.attempts ++
  bytes8 (bitsOf [x.firstLock, x.calibrated, s.lines.lock[synthAddr p .a], s.lines.lock[synthAddr p .b]]) ++
  bytes8 x.attachments ++ bytes8 x.lastFailure.code ++ [x.calibrations] ++ bytes16 x.tunings.toNat ++
  floorBytes x.floors

/-- QUERY_PAIR (R82). -/
def execQueryPair (n : StationId) (payload : List Byte) (s : State) : Host.Outcome State Fault Refusal :=
  takeCommand n s <| fixedLength 1 payload s <|
    match pairOf (field8 payload 0) with
    | none => refuse s .range
    | some p => (s, ⟨.ok, pairPayload s p⟩)

/-! ## The link -/

/-- The current transaction is over (R72). -/
def linkDone (s : State) : State := s.modLink fun x => { x with current := none }

/-- RML_WRITE_COMPLETE (R70, R72): the arbiter grants the next transaction an engine offers. -/
def execRmlWriteComplete (s : State) : Host.Outcome State Fault Refusal :=
  .next <|
    match s.link.current with
    | some (_, .write _ _ _) => linkGrant (linkDone s)
    | _ => s

/-- The image a read-increment from this address must return (R70). -/
def State.imageAt (s : State) (p : PairId) (a : SynthAddr) : List Word16 :=
  if a = synthAddr p .a then (s.pair p).image .a else (s.pair p).image .b

/-- Engine p takes the words read in PROGRAMMING: a mismatch fails the attempt, agreement goes on to the next
transaction, or to LOCKING when the queue is empty (R70, R73, R74). -/
def takeReadback (s : State) (p : PairId) (a : SynthAddr) (words : List Word16) : State :=
  if (s.pair p).state = .programming then
    if words = s.imageAt p a then
      if (s.pair p).queue = [] then enterLocking s p else s
    else failAttempt s p .readback
  else s

/-- RML_READ_INCREMENT_COMPLETE (R70, R72). -/
def execRmlReadIncrementComplete (words : List Word16) (s : State) : Host.Outcome State Fault Refusal :=
  .next <|
    match s.link.current with
    | some (p, .readIncrement a _ _) => linkGrant (takeReadback (linkDone s) p a words)
    | _ => s

/-! ## Lock lines -/

/-- LOCK_RISE (R74, R79): the lock condition holds at the rise that makes the second line high. -/
def execLockRise (a : SynthAddr) (s : State) : Host.Outcome State Fault Refusal :=
  let t := s.modLines fun x => { x with lock := x.lock.set a true }
  .next <|
    if s.inReset || s.lines.lock[a] then t
    else if t.bothLocked (pairOfSynth a) then gainLock t (pairOfSynth a) else t

/-- LOCK_FALL (R78). -/
def execLockFall (a : SynthAddr) (s : State) : Host.Outcome State Fault Refusal :=
  let t := s.modLines fun x => { x with lock := x.lock.set a false }
  .next <| if s.inReset || !s.lines.lock[a] then t else loseLock t (pairOfSynth a)

/-! ## Timers and calibration -/

/-- The end of a timer of the pair, when the pair is in the state in which that timer runs (R74, R75, R78). -/
def Pair.timerIn (x : PairState) (timer : Option Nat) (p : Pair) : Option Nat := if p.state = x then timer else none

/-- LOCK_TIMER_EXPIRY (R74): the attempt fails with LOCK_TIMEOUT. -/
def execLockTimerExpiry (p : PairId) (s : State) : Host.Outcome State Fault Refusal :=
  .next <|
    match (s.pair p).timerIn .locking (s.pair p).lockTimer with
    | none => s
    | some t => failAttempt (s.reach t) p .lockTimeout

/-- The pair enters CALIBRATING (R75, R76). -/
def Pair.calibrate (p : Pair) : Pair := { p with state := .calibrating, settleTimer := none, calibrating := true }

/-- SETTLE_TIMER_EXPIRY (R75). -/
def execSettleTimerExpiry (p : PairId) (s : State) : Host.Outcome State Fault Refusal :=
  .next <|
    match (s.pair p).timerIn .settling (s.pair p).settleTimer with
    | none => s
    | some t =>
      if (s.pair p).calibrated then enterReady (s.reach t) p else (s.reach t).modPair p Pair.calibrate

/-- The floor table and counts at a calibration's completion (R76). -/
def Pair.takeFloors (measured : Vector Level 8) (p : Pair) : Pair :=
  { p with
    floors := calibratedFloors (p.tuned.getD 0) measured
    calibrated := true
    calibrations := p.calibrations + 1 }

/-- CALIBRATION_COMPLETION (R76): the table is written and the pair enters READY. -/
def execCalibrationCompletion (p : PairId) (measured : Vector Level 8) (s : State) :
    Host.Outcome State Fault Refusal :=
  .next <|
    if (s.pair p).state = .calibrating then enterReady (s.modPair p (Pair.takeFloors measured)) p else s

/-- RELOCK_TIMER_EXPIRY (R79): the attempt fails with RELOCK_TIMEOUT. -/
def execRelockTimerExpiry (p : PairId) (s : State) : Host.Outcome State Fault Refusal :=
  .next <|
    match (s.pair p).timerIn .relocking (s.pair p).relockTimer with
    | none => s
    | some t => failAttempt (s.reach t) p .relockTimeout

end Sys2Proof.Machine
end

