-- ==== Sys2Proof/Machine/Records.lean ====
section
/-!
DEFINITION. READ RECORD (08_result_rings_and_verdict_records.md, R155, R156).
-/
namespace Sys2Proof.Machine

/-- The head entry is removed (R155). -/
def Ring.dropHead (r : Ring) : Ring := ⟨r.entries.tail⟩

/-- The OK payload of READ RECORD: the counts after the removal, then the verdict record (R155). -/
def recordPayload (after : Ring) (e : RingEntry) (rec : Record) : List Byte :=
  bytes8 after.readable ++ bytes8 after.reserved ++ verdictBytes e rec

/-- The role of a head entry, 255 for an empty ring (R156). -/
def Ring.headRole (r : Ring) : Nat :=
  match r.entries with
  | [] => 255
  | e :: _ => match e.role with | .original => 0 | .copy => 1

/-- The EMPTY payload of READ RECORD (R156). -/
def heldPayload (r : Ring) : List Byte :=
  bytes8 r.reserved ++ bytes8 r.committed ++ bytes16 r.free ++ bytes8 r.headRole

/-- The head entry and its record, when it is COMMITTED. -/
def Ring.headRecord (r : Ring) : Option (RingEntry × Record) :=
  match r.entries with
  | [] => none
  | e :: _ => e.record.map fun rec => (e, rec)

/-- READ_RECORD (R155, R156): a removal frees words, and the pool is told (R151). -/
def execReadRecord (n : StationId) (payload : List Byte) (s : State) : Host.Outcome State Fault Refusal :=
  takeCommand n s <| fixedLength 0 payload s <|
    match (s.ring n).headRecord with
    | none => (s, ⟨.empty, heldPayload (s.ring n)⟩)
    | some (e, rec) => (arbitrate (s.modRing n Ring.dropHead), ⟨.ok, recordPayload (s.ring n).dropHead e rec⟩)

end Sys2Proof.Machine
end

