-- ==== Sys2Proof/Machine/Requests.lean ====
section
/-!
DEFINITION. The request pool's commands (05_request_pool_dispatch_and_the_pair_planner.md, R88 to R96).
-/
namespace Sys2Proof.Machine

/-! ## SUBMIT -/

/-- The id after one, which wraps from 65534 to 0 (R88). -/
def idAfter (i : RequestId) : RequestId := if i = 65534 then 0 else i + 1

/-- The next id from i that names no live request of station n (R88). -/
def nextFreeId (s : State) (n : StationId) : Nat → RequestId → RequestId
  | 0, i => i
  | fuel + 1, i => if s.live ⟨n, i⟩ then nextFreeId s n fuel (idAfter i) else i

/-- The mask admits the kind (R39). -/
def Mask.admits (m : Mask) : Kind → Bool
  | .measure => m.jitter.isSome || m.band.isSome
  | .frequencyCheck => true
  | .pullCheck => m.pull.isSome

/-- A request of this kind under this mask is a band request (R85). -/
def bandRequest (kind : Kind) (m : Mask) : Bool := decide (kind = .measure) && m.band.isSome

/-- The bands a request's record has entries for (R85). -/
def bandsFor (kind : Kind) (m : Mask) : Nat :=
  match m.band with
  | none => 0
  | some d => if kind = .measure then d.bands.length else 0

/-- The pool entry of an accepted SUBMIT (R85, R90). Its id is the counter's value, past any live ones (R88); a
station has at most 16 live requests, so 17 turns reach a free one. -/
def requestFor (s : State) (n : StationId) (k : SocketId) (kind : Kind) (m : MaskId) (c : Mask) : Request where
  id := nextFreeId s n 17 (s.port n).nextId
  station := n
  kind := kind
  socket := k
  loadGen := (s.socket k).loadGen
  mask := m
  seq := s.pool.nextSeq
  band := bandRequest kind c
  size := recordSize (bandsFor kind c)

/-- The request joins the end of the pool and takes the sequence number (R87, R90). -/
def Pool.join (q : Request) (p : Pool) : Pool :=
  { p with requests := p.requests ++ [q], nextSeq := p.nextSeq + 1 }

/-- The socket of a queued request (R56). -/
def Socket.queue (r : RequestRef) (k : Socket) : Socket := { k with engagement := .queued, request := some r }

/-- The request joins the pool: entry, sequence, reference count, engagement, and the station's counter moves on
past its id (R88, R90). -/
def joinPool (s : State) (q : Request) : State :=
  let t := s.modPool (Pool.join q)
  let t := t.modMask q.mask fun e => { e with refCount := e.refCount + 1 }
  let t := t.modSocket q.socket (Socket.queue q.ref)
  t.modPort q.station fun p => { p with nextId := idAfter q.id }

/-- The effects of an accepted SUBMIT (R90). -/
def acceptRequest (s : State) (q : Request) : State :=
  let t := joinPool s q
  arbitrate (if q.band then plannerPass t else t)

/-- The pool holds 32 requests, or 16 of station n's (R86, R89 check 6). -/
def State.poolFull (s : State) (n : StationId) : Bool :=
  decide (Config.poolPlaces ≤ s.pool.requests.length) || decide (Config.stationPlaces ≤ (s.pool.ofStation n).length)

/-- The BUSY payload of SUBMIT: the engagement, and the station and id of the socket's request (R89). -/
def engagementPayload (k : Socket) : List Byte :=
  bytes8 k.engagement.code ++ bytes8 (match k.request with | none => 255 | some r => r.station.val) ++
  bytes16 (match k.request with | none => 65535 | some r => r.id.toNat)

/-- Checks 1 to 4 of SUBMIT: the answer of the first that fails (R89). -/
def submitRefusal (s : State) (n : StationId) (k : SocketId) (loadGen : Nat) : Option Answer :=
  if !s.owns n k then some ⟨.notOwner, []⟩
  else if (s.socket k).presence = .absent then some ⟨.absent, []⟩
  else if loadGen ≠ (s.socket k).loadGen.toNat then some ⟨.stale, bytes16 (s.socket k).loadGen.toNat⟩
  else if (s.socket k).engagement ≠ .idle then some ⟨.busy, engagementPayload (s.socket k)⟩
  else none

/-- The DEFINED mask a byte names, with its contents. -/
def State.definedMask (s : State) (number : Nat) : Option (MaskId × Mask) :=
  match maskOf number with
  | none => none
  | some m => (s.mask m).contents.map fun c => (m, c)

/-- The OK payload of SUBMIT: request id and submit sequence (R90). -/
def submitPayload (q : Request) : List Byte := bytes16 q.id.toNat ++ bytes32 q.seq.toNat

/-- SUBMIT on a socket with a kind, load generation and mask byte: the checks of R89 in order. -/
def submit (s : State) (n : StationId) (k : SocketId) (kind : Kind) (loadGen number : Nat) : State × Answer :=
  match submitRefusal s n k loadGen, s.definedMask number with
  | some a, _ => (s, a)
  | none, none => refuse s .noSuch
  | none, some (m, c) =>
    if !c.admits kind then refuse s .range
    else if s.poolFull n then refuse s .full
    else (acceptRequest s (requestFor s n k kind m c), ⟨.ok, submitPayload (requestFor s n k kind m c)⟩)

/-- SUBMIT (R89). -/
def execSubmit (n : StationId) (payload : List Byte) (s : State) : Host.Outcome State Fault Refusal :=
  takeCommand n s <| fixedLength 5 payload s <|
    match socketOf (field8 payload 0), kindOf (field8 payload 1) with
    | some k, some kind => submit s n k kind (field16 payload 2) (field8 payload 4)
    | _, _ => refuse s .range

/-! ## CANCEL -/

/-- Where a live request is (R92, R96). -/
inductive Place where
  | pool (q : Request)
  | lane (l : LaneId)
  | slot (l : LaneId)
  deriving DecidableEq, Repr

/-- The place of a live request. -/
def State.place (s : State) (r : RequestRef) : Option Place :=
  match s.queued r, s.laneRunning r, s.laneHolding r with
  | some q, _, _ => some (.pool q)
  | none, some l, _ => some (.lane l)
  | none, none, some l => some (.slot l)
  | none, none, none => none

/-- The place byte (R92, R96). -/
def Place.code : Place → Nat
  | .pool _ => 0
  | .lane _ => 1
  | .slot _ => 2

/-- The effects of an accepted CANCEL (R91, R92, R125, R126). -/
def cancelAt (s : State) : Place → State
  | .pool q => arbitrate (leavePool s q)
  | .lane l => endActive s l .aborted (some .cancelled)
  | .slot l => abortSlot s l .cancelled

/-- CANCEL (R92). -/
def execCancel (n : StationId) (payload : List Byte) (s : State) : Host.Outcome State Fault Refusal :=
  takeCommand n s <| fixedLength 2 payload s <|
    match s.place ⟨n, BitVec.ofNat 16 (field16 payload 0)⟩ with
    | none => refuse s .noSuch
    | some x => (cancelAt s x, ⟨.ok, bytes16 (field16 payload 0) ++ bytes8 x.code⟩)

/-! ## QUERY REQUEST -/

/-- The requests of the same class in the pool older than this one (R96, byte 17). -/
def State.olderThan (s : State) (q : Request) : Nat :=
  (s.pool.requests.filter fun x =>
    decide (x.requestClass = q.requestClass) && decide (s.pool.age q < s.pool.age x)).length

/-- The planner's retune record for a pair names the request (R105). -/
def State.retunedFor (s : State) (r : RequestRef) : Option PairId → Bool
  | none => false
  | some p => decide (s.retune[p] = some r)

/-- Bytes 0 to 12 of QUERY REQUEST (R96). -/
def requestBytes (q : Request) (x : Place) : List Byte :=
  bytes8 q.station.val ++ bytes16 q.id.toNat ++ bytes8 x.code ++ bytes8 q.kind.code ++ bytes8 q.socket.val ++
  bytes16 q.loadGen.toNat ++ bytes8 q.mask.val ++ bytes32 q.seq.toNat

/-- Bytes 13 to 17 of QUERY REQUEST for a request in the pool (R96). -/
def poolBytes (s : State) (q : Request) : List Byte :=
  let pair := (s.wants q).bind s.servingPair
  bytes8 (s.waitReasons q) ++
  bytes8 (numberOr 255 (allLanes.find? fun l => decide ((s.lane l).mark = some q.ref))) ++
  bytes8 (pairCode 255 pair) ++ bytes8 (s.retunedFor q.ref pair).toNat ++ bytes8 (s.olderThan q)

/-- Bytes 13 to 17 of QUERY REQUEST for a request in lane l or its slot (R96). -/
def runBytes (s : State) (c : RunContext) (l : LaneId) : List Byte :=
  bytes8 0 ++ bytes8 l.val ++ bytes8 (pairCode 255 c.pair) ++ bytes8 (s.retunedFor c.request.ref c.pair).toNat ++
  bytes8 0

/-- The 18 bytes of QUERY REQUEST (R96). -/
def placePayload (s : State) : Place → List Byte
  | .pool q => requestBytes q (.pool q) ++ poolBytes s q
  | .lane l =>
    match (s.lane l).active with
    | none => []
    | some c => requestBytes c.request (.lane l) ++ runBytes s c l
  | .slot l =>
    match (s.lane l).slot with
    | none => []
    | some c => requestBytes c.request (.slot l) ++ runBytes s c l

/-- QUERY_REQUEST (R96). -/
def execQueryRequest (n : StationId) (payload : List Byte) (s : State) : Host.Outcome State Fault Refusal :=
  takeCommand n s <| fixedLength 3 payload s <|
    match stationOf (field8 payload 0) with
    | none => refuse s .range
    | some x =>
      match s.place ⟨x, BitVec.ofNat 16 (field16 payload 1)⟩ with
      | none => refuse s .noSuch
      | some p => (s, ⟨.ok, placePayload s p⟩)

end Sys2Proof.Machine
end

