-- ==== Sys2Proof/Machine/Sockets.lean ====
section
/-!
DEFINITION. The socket table's commands and events and the line monitor's (03_sockets_and_handler_lines.md,
R43 to R65).
-/
namespace Sys2Proof.Machine

/-! ## Shared operations -/

/-- The command on the socket a byte names, for its owner: a number above 15 is answered RANGE, a caller that does
not own the socket NOT_OWNER (R48, R50, R51, R55). -/
def ownedSocket (n : StationId) (number : Nat) (s : State) (block : SocketId → State × Answer) : State × Answer :=
  match socketOf number with
  | none => refuse s .range
  | some k => if s.owns n k then block k else refuse s .notOwner

/-- The supply leaves ON, or FAULT, for state v: powered-for, EFC code and EFC output become 0 (R49). -/
def Socket.unpower (v : Supply) (k : Socket) : Socket :=
  { k with supply := v, poweredFor := 0, efcCode := 0, efcOutput := 0 }

/-- The supply comes ON: powered-for counts from 0 and the output is driven with the code (R50, R53, R54). -/
def Socket.power (now : Nat) (k : Socket) : Socket :=
  { k with supply := .on, poweredFor := 0, secondEnd := now + Config.second, efcOutput := k.efcCode }

/-- The queued request of socket k. -/
def State.queuedOf (s : State) (k : SocketId) : Option Request :=
  match (s.socket k).engagement, (s.socket k).request with
  | .queued, some r => s.queued r
  | _, _ => none

/-- The engagement is RUNNING or SUSPENDED. -/
def Engagement.hasRun : Engagement → Bool
  | .running => true
  | .suspended => true
  | .idle => false
  | .queued => false

/-- A socket event reaches the socket's work: a QUEUED request is dropped without a record, a RUNNING or SUSPENDED
run is aborted with the cause (R57). -/
def dropOrAbort (s : State) (k : SocketId) (cause : AbortCause) : State :=
  match s.queuedOf k with
  | some q => arbitrate (leavePool s q)
  | none =>
    match (s.socket k).engagement.hasRun, (s.socket k).request with
    | true, some r => abortRun s r cause
    | _, _ => s

/-- The effects of a supply fault (R52). -/
def takeSupplyFault (s : State) (k : SocketId) : State :=
  dropOrAbort ((s.modSocket k (Socket.unpower .fault)).noticeSocket (s.socket k).owner) k .supply

/-- A PULL CHECK run is RUNNING on the socket (R54, R55). -/
def State.pullRunning (s : State) (k : SocketId) : Bool :=
  match (s.socket k).lane with
  | none => false
  | some l =>
    match (s.lane l).active with
    | none => false
    | some c => decide (c.request.kind = .pullCheck)

/-! ## Ownership -/

/-- The OK payload of CLAIM SOCKET: socket number, accepted presence, load generation (R47). -/
def claimPayload (s : State) (k : SocketId) : List Byte :=
  bytes8 k.val ++ bytes8 (decide ((s.socket k).presence = .present)).toNat ++ bytes16 (s.socket k).loadGen.toNat

/-- The claim of socket k by station n (R47). -/
def claim (n : StationId) (k : SocketId) (s : State) : State × Answer :=
  match (s.socket k).owner with
  | none => (s.modSocket k fun x => { x with owner := some n }, ⟨.ok, claimPayload s k⟩)
  | some o => if o = n then (s, ⟨.ok, claimPayload s k⟩) else (s, ⟨.owned, bytes8 o.val⟩)

/-- CLAIM_SOCKET (R47). -/
def execClaimSocket (n : StationId) (payload : List Byte) (s : State) : Host.Outcome State Fault Refusal :=
  takeCommand n s <| fixedLength 1 payload s <|
    match socketOf (field8 payload 0) with
    | none => refuse s .range
    | some k => claim n k s

/-- An accepted release of socket k: a queued request leaves the pool without a record, then the socket is given
up (R48). -/
def releaseSocket (k : SocketId) (s : State) : State × Answer :=
  match s.queuedOf k with
  | none => (arbitrate (s.modSocket k Socket.giveUp), ⟨.ok, bytes8 k.val ++ bytes16 65535⟩)
  | some q =>
    (arbitrate ((leavePool s q).modSocket k Socket.giveUp), ⟨.ok, bytes8 k.val ++ bytes16 q.id.toNat⟩)

/-- RELEASE_SOCKET (R48). -/
def execReleaseSocket (n : StationId) (payload : List Byte) (s : State) : Host.Outcome State Fault Refusal :=
  takeCommand n s <| fixedLength 1 payload s <| ownedSocket n (field8 payload 0) s fun k =>
    if (s.socket k).engagement.hasRun then refuse s .busy else releaseSocket k s

/-! ## Supply -/

/-- Checks 3 to 5 of POWER SOCKET ON, the first that fails (R50). -/
def State.powerRefusal (s : State) (k : SocketId) : Option Status :=
  if (s.socket k).presence = .absent then some .absent
  else if s.monitor.cutoff then some .cutoff
  else if (s.socket k).supply = .fault then some .busy
  else none

/-- An accepted POWER SOCKET ON: a supply that is OFF comes ON, or goes to FAULT when SFAULT is high (R50). -/
def powerOn (s : State) (k : SocketId) : State :=
  if (s.socket k).supply = .on then s
  else if s.lines.sfault[k] then takeSupplyFault s k
  else arbitrate (s.modSocket k (Socket.power s.now))

/-- The answer to an accepted POWER SOCKET carries the resulting supply state (R50, R51). -/
def supplyAnswer (s : State) (k : SocketId) : Answer := ⟨.ok, bytes8 (s.socket k).supply.code⟩

/-- A POWER SOCKET frame: its length, then socket number and setting byte together before ownership (R50). -/
def powerFrame (n : StationId) (payload : List Byte) (s : State) (block : SocketId → State × Answer) :
    State × Answer :=
  fixedLength 2 payload s <|
    if 1 < field8 payload 1 then refuse s .range else ownedSocket n (field8 payload 0) s block

/-- POWER_SOCKET_ON (R50). -/
def execPowerSocketOn (n : StationId) (payload : List Byte) (s : State) : Host.Outcome State Fault Refusal :=
  takeCommand n s <| powerFrame n payload s fun k =>
    match s.powerRefusal k with
    | some st => refuse s st
    | none => (powerOn s k, supplyAnswer (powerOn s k) k)

/-- An accepted POWER SOCKET OFF; OFF from OFF changes nothing (R51). -/
def powerOff (s : State) (k : SocketId) : State :=
  if (s.socket k).supply = .off then s else arbitrate (s.modSocket k (Socket.unpower .off))

/-- POWER_SOCKET_OFF (R51). -/
def execPowerSocketOff (n : StationId) (payload : List Byte) (s : State) : Host.Outcome State Fault Refusal :=
  takeCommand n s <| powerFrame n payload s fun k =>
    if (s.socket k).engagement.hasRun then refuse s .busy
    else (powerOff s k, supplyAnswer (powerOff s k) k)

/-- SUPPLY_FAULT (R52): the SFAULT input takes this level. A rise while the supply is ON is a supply fault; a rise
in OFF or FAULT and a fall change the level only, as does a change during a device reset. -/
def execSupplyFault (k : SocketId) (high : Bool) (s : State) : Host.Outcome State Fault Refusal :=
  let t := s.modLines fun x => { x with sfault := x.sfault.set k high }
  .next <|
    if high && !s.lines.sfault[k] && !s.inReset && decide ((s.socket k).supply = .on) then takeSupplyFault t k else t

/-- The end of a full second of supply ON: powered-for increases and stops at 65535 (R53). -/
def Socket.secondPassed (k : Socket) : Socket :=
  { k with poweredFor := holdNat 65535 (k.poweredFor + 1), secondEnd := k.secondEnd + Config.second }

/-- POWERED_FOR_INCREASE (R53): the pool takes the increase for the socket's queued request. -/
def execPoweredForIncrease (k : SocketId) (s : State) : Host.Outcome State Fault Refusal :=
  .next <|
    if (s.socket k).supply = .on then
      arbitrate ((s.reach (s.socket k).secondEnd).modSocket k Socket.secondPassed)
    else s

/-! ## EFC -/

/-- The EFC code takes a value; the output follows it while the supply is ON (R55). -/
def Socket.setCode (code : Nat) (k : Socket) : Socket :=
  { k with
    efcCode := BitVec.ofNat 12 code
    efcOutput := if k.supply = .on then BitVec.ofNat 12 code else k.efcOutput }

/-- SET_EFC (R55). -/
def execSetEfc (n : StationId) (payload : List Byte) (s : State) : Host.Outcome State Fault Refusal :=
  takeCommand n s <| fixedLength 3 payload s <|
    if 4095 < field16 payload 1 then refuse s .range
    else ownedSocket n (field8 payload 0) s fun k =>
      if s.pullRunning k then refuse s .busy
      else (s.modSocket k (Socket.setCode (field16 payload 1)), ⟨.ok, bytes16 (field16 payload 1)⟩)

/-! ## Reading a socket -/

/-- The 20 bytes of QUERY SOCKET (R59). -/
def socketPayload (s : State) (k : SocketId) : List Byte :=
  let x := s.socket k
  bytes8 k.val ++
  bytes8 (bitsOf [decide (x.presence = .present), s.lines.present[k], x.debounce.isSome, x.rose, x.fell]) ++
  bytes16 x.loadGen.toNat ++ bytes8 (numberOr 255 x.owner) ++
  bytes8 (x.supply.code + 128 * s.lines.sfault[k].toNat) ++ bytes16 x.poweredFor ++ bytes16 x.efcCode.toNat ++
  bytes16 x.efcOutput.toNat ++ bytes8 x.engagement.code ++
  bytes8 (match x.request with | none => 255 | some r => r.station.val) ++
  bytes16 (match x.request with | none => 65535 | some r => r.id.toNat) ++ bytes8 (numberOr 255 x.lane) ++
  bytes8 (bitsOf [s.monitor.motion, s.monitor.quiet, s.monitor.cutoff]) ++ bytes8 s.monitor.quietTime.toNat ++
  bytes8 0

/-- QUERY_SOCKET (R59): the owner's query clears the flags it reported. -/
def execQuerySocket (n : StationId) (payload : List Byte) (s : State) : Host.Outcome State Fault Refusal :=
  takeCommand n s <| fixedLength 1 payload s <|
    match socketOf (field8 payload 0) with
    | none => refuse s .range
    | some k =>
      (if s.owns n k then s.modSocket k fun x => { x with rose := false, fell := false } else s,
       ⟨.ok, socketPayload s k⟩)

/-! ## Presence -/

/-- The debounce when the input takes a level: IDLE where it agrees with the accepted presence, otherwise a full
new interval (R44). -/
def Socket.debounceFor (high : Bool) (now : Nat) (k : Socket) : Option Nat :=
  match k.presence, high with
  | .absent, true => some (now + Config.riseDebounce)
  | .present, false => some (now + Config.fallDebounce)
  | .absent, false => none
  | .present, true => none

/-- PRESENT_CHANGE (R44). A change during a device reset changes the level only. -/
def execPresentChange (k : SocketId) (high : Bool) (s : State) : Host.Outcome State Fault Refusal :=
  let t := s.modLines fun x => { x with present := x.present.set k high }
  .next <|
    if s.inReset || decide (s.lines.present[k] = high) then t
    else t.modSocket k fun x => { x with debounce := x.debounceFor high s.now }

/-- The interval runs toward this presence: the debounce is PENDING and the accepted presence is the other one. -/
def Socket.pendingFrom (k : Socket) (p : Presence) : Option Nat :=
  if k.presence = p then k.debounce else none

/-- The socket entry at an accepted rise (R45). -/
def Socket.arrive (k : Socket) : Socket :=
  { k with presence := .present, debounce := none, loadGen := k.loadGen + 1, rose := true }

/-- RISE_ACCEPTED (R45). -/
def execRiseAccepted (k : SocketId) (s : State) : Host.Outcome State Fault Refusal :=
  .next <|
    match (s.socket k).pendingFrom .absent with
    | none => s
    | some t =>
      if s.inReset then s
      else ((s.reach t).modSocket k Socket.arrive).noticeSocket (s.socket k).owner

/-- The socket entry at an accepted fall: a supply of FAULT stays FAULT (R46). -/
def Socket.depart (k : Socket) : Socket :=
  { k.unpower (if k.supply = .on then .off else k.supply) with presence := .absent, debounce := none, fell := true }

/-- FALL_ACCEPTED (R46): the socket's own changes, then its work (R57). -/
def execFallAccepted (k : SocketId) (s : State) : Host.Outcome State Fault Refusal :=
  .next <|
    match (s.socket k).pendingFrom .present with
    | none => s
    | some t =>
      dropOrAbort (((s.reach t).modSocket k Socket.depart).noticeSocket (s.socket k).owner) k .removed

/-! ## The line monitor -/

/-- SET_QUIET_TIME (R62): any byte; a running timer and the quiet condition are not changed. -/
def execSetQuietTime (n : StationId) (payload : List Byte) (s : State) : Host.Outcome State Fault Refusal :=
  takeCommand n s <| fixedLength 1 payload s <|
    (s.modMonitor fun m => { m with quietTime := byteAt payload 0 }, ⟨.ok, [byteAt payload 0]⟩)

/-- The line monitor when MOTION rises: not quiet, a running quiet timer discarded (R60). -/
def LineMonitor.moved (m : LineMonitor) : LineMonitor := { m with motion := true, quiet := false, quietTimer := none }

/-- MOTION_ASSERTION (R60): the assertion is offered to every lane. -/
def execMotionAssertion (s : State) : Host.Outcome State Fault Refusal :=
  let t := s.modLines fun x => { x with motion := true }
  .next <|
    if s.inReset || s.lines.motion then t
    else allLanes.foldl motionAt (t.modMonitor LineMonitor.moved)

/-- The line becomes quiet, and the quiet event is offered to every lane, which may enter CORRELATE and become
markable (R61, R101). -/
def becomeQuiet (s : State) : State :=
  arbitrate (allLanes.foldl quietAt (s.modMonitor fun m => { m with quiet := true, quietTimer := none }))

/-- MOTION_FALL (R61): the quiet timer starts with the setting; a setting of 0 makes the line quiet at once. -/
def execMotionFall (s : State) : Host.Outcome State Fault Refusal :=
  let t := s.modLines fun x => { x with motion := false }
  .next <|
    if s.inReset || !s.lines.motion then t
    else
      let u := t.modMonitor fun m => { m with motion := false }
      if s.monitor.quietTime = 0 then becomeQuiet u
      else u.modMonitor fun m =>
        { m with quietTimer := some (s.now + s.monitor.quietTime.toNat * Config.millisecond) }

/-- QUIET_TIMER_EXPIRY (R61). -/
def execQuietTimerExpiry (s : State) : Host.Outcome State Fault Refusal :=
  .next <|
    match s.monitor.quietTimer with
    | none => s
    | some t => becomeQuiet (s.reach t)

/-! ## CUTOFF -/

/-- Every socket with supply ON is turned OFF (R63). -/
def unpowerAll (s : State) : State :=
  { s with
    sockets := Vector.ofFn fun k => if (s.socket k).supply = .on then (s.socket k).unpower .off else s.socket k }

/-- CUTOFF_ASSERTION (R63): every supply first, then every run, then the notice; queued requests stay. -/
def execCutoffAssertion (s : State) : Host.Outcome State Fault Refusal :=
  let t := s.modLines fun x => { x with cutoff := true }
  .next <|
    if s.inReset || s.lines.cutoff then t
    else
      let t := unpowerAll (t.modMonitor fun m => { m with cutoff := true })
      let t := allLanes.foldl (abortWhere Option.isSome .cutoff) t
      (arbitrate t).latchAll fun l => { l with cutoff := true }

/-- CUTOFF_DEASSERTION (R64): no supply comes back and no notice is set. -/
def execCutoffDeassertion (s : State) : Host.Outcome State Fault Refusal :=
  let t := s.modLines fun x => { x with cutoff := false }
  .next <| if s.inReset then t else t.modMonitor fun m => { m with cutoff := false }

end Sys2Proof.Machine
end

