-- ==== Sys2Proof/Machine/YieldCounters.lean ====
section
/-!
DEFINITION. The counter block's commands (09_yield_counters.md, R170, R171).
-/
namespace Sys2Proof.Machine

/-- The settings byte (R170). -/
def Counters.settingsByte (c : Counters) : Nat := bitsOf [c.freeze, c.saturate, c.resetOnRead]

/-- All three settings are replaced (R170). -/
def Counters.configure (b : Nat) (c : Counters) : Counters :=
  { c with freeze := bitOf b 0, saturate := bitOf b 1, resetOnRead := bitOf b 2 }

/-- Every count takes a value, and the last-crossing record becomes none (R170). -/
def Counters.setAll (v : Word16) (c : Counters) : Counters :=
  { c with counts := Vector.replicate 16 (Vector.replicate 6 v), last := none }

/-- The action of COUNTER CONTROL (R170). -/
def Counters.act (action : Nat) (c : Counters) : Counters :=
  match action with
  | 1 => c.setAll 0
  | 2 => c.setAll 32752
  | 3 => c.setAll 65520
  | _ => c

/-- COUNTER_CONTROL (R170). -/
def execCounterControl (n : StationId) (payload : List Byte) (s : State) : Host.Outcome State Fault Refusal :=
  takeCommand n s <| fixedLength 2 payload s <|
    if 7 < field8 payload 0 ∨ 3 < field8 payload 1 then refuse s .range
    else
      (s.modCounters fun c => (c.configure (field8 payload 0)).act (field8 payload 1),
       ⟨.ok, [byteAt payload 0]⟩)

/-- The socket is one of `count` sockets from `first`. -/
def inSpan (first count : Nat) (k : SocketId) : Bool := decide (first ≤ k.val) && decide (k.val < first + count)

/-- The six counts of a socket (R171). -/
def countBytes (row : Vector Word16 6) : List Byte := row.toList.flatMap fun v => bytes16 v.toNat

/-- Bytes 3 to 5 of READ COUNTERS (R171). -/
def crossingBytes : Option LastCrossing → List Byte
  | none => bytes8 255 ++ bytes8 255 ++ bytes8 255
  | some x => bytes8 x.socket.val ++ bytes8 x.index.val ++ bytes8 (match x.crossing with | .half => 0 | .full => 1)

/-- The 6 + 12·n bytes of READ COUNTERS (R171). -/
def countersPayload (c : Counters) (first count : Nat) : List Byte :=
  bytes8 c.settingsByte ++ bytes8 first ++ bytes8 count ++ crossingBytes c.last ++
  (allSockets.filter (inSpan first count)).flatMap fun k => countBytes c.counts[k]

/-- The counts of the sockets read become 0 (R171). -/
def Counters.clearSpan (first count : Nat) (c : Counters) : Counters :=
  { c with
    counts := Vector.ofFn fun k => if inSpan first count k then Vector.replicate 6 0 else c.counts[k] }

/-- The state after a read: reset-on-read clears what was returned (R171). -/
def afterCountersRead (s : State) (first count : Nat) : State :=
  if s.counters.resetOnRead then s.modCounters (Counters.clearSpan first count) else s

/-- READ_COUNTERS (R171). -/
def execReadCounters (n : StationId) (payload : List Byte) (s : State) : Host.Outcome State Fault Refusal :=
  takeCommand n s <| fixedLength 2 payload s <|
    if 15 < field8 payload 0 ∨ field8 payload 1 = 0 ∨ 8 < field8 payload 1 ∨
        16 < field8 payload 0 + field8 payload 1 then refuse s .range
    else
      (afterCountersRead s (field8 payload 0) (field8 payload 1),
       ⟨.ok, countersPayload s.counters (field8 payload 0) (field8 payload 1)⟩)

end Sys2Proof.Machine
end

