-- ==== Sys2Proof/Machine/Dispatch.lean ====
section
/-! DEFINITION. The meaning of each command and event: one arm per constructor of Instr, each one call. -/
namespace Sys2Proof.Machine

def exec (i : Instr) (s : State) : Host.Outcome State Fault Refusal :=
    match i with
    | .getStatus n b => Sys2Proof.Machine.execGetStatus n b s
    | .ackNotices n b => Sys2Proof.Machine.execAckNotices n b s
    | .setPortMode n b => Sys2Proof.Machine.execSetPortMode n b s
    | .stationReset n b => Sys2Proof.Machine.execStationReset n b s
    | .claimSocket n b => Sys2Proof.Machine.execClaimSocket n b s
    | .releaseSocket n b => Sys2Proof.Machine.execReleaseSocket n b s
    | .powerSocketOn n b => Sys2Proof.Machine.execPowerSocketOn n b s
    | .powerSocketOff n b => Sys2Proof.Machine.execPowerSocketOff n b s
    | .setEfc n b => Sys2Proof.Machine.execSetEfc n b s
    | .querySocket n b => Sys2Proof.Machine.execQuerySocket n b s
    | .setQuietTime n b => Sys2Proof.Machine.execSetQuietTime n b s
    | .writeMask n b => Sys2Proof.Machine.execWriteMask n b s
    | .eraseMask n b => Sys2Proof.Machine.execEraseMask n b s
    | .readMask n b => Sys2Proof.Machine.execReadMask n b s
    | .tunePair n b => Sys2Proof.Machine.execTunePair n b s
    | .queryPair n b => Sys2Proof.Machine.execQueryPair n b s
    | .submit n b => Sys2Proof.Machine.execSubmit n b s
    | .cancel n b => Sys2Proof.Machine.execCancel n b s
    | .queryRequest n b => Sys2Proof.Machine.execQueryRequest n b s
    | .queryLane n b => Sys2Proof.Machine.execQueryLane n b s
    | .readRecord n b => Sys2Proof.Machine.execReadRecord n b s
    | .readCounters n b => Sys2Proof.Machine.execReadCounters n b s
    | .counterControl n b => Sys2Proof.Machine.execCounterControl n b s
    | .unknownCommand n code b => Sys2Proof.Machine.execUnknownCommand n code b s
    | .frameLengthError n len => Sys2Proof.Machine.execFrameLengthError n len s
    | .csnFall n => Sys2Proof.Machine.execCsnFall n s
    | .csnRise n => Sys2Proof.Machine.execCsnRise n s
    | .srstnAssertion low => Sys2Proof.Machine.execSrstnAssertion low s
    | .resetStepPool n => Sys2Proof.Machine.execResetStepPool n s
    | .resetStepLanes n => Sys2Proof.Machine.execResetStepLanes n s
    | .resetStepRing n => Sys2Proof.Machine.execResetStepRing n s
    | .resetStepSockets n => Sys2Proof.Machine.execResetStepSockets n s
    | .resetStepPort n => Sys2Proof.Machine.execResetStepPort n s
    | .resetStepRequestIds n => Sys2Proof.Machine.execResetStepRequestIds n s
    | .srstnRelease n => Sys2Proof.Machine.execSrstnRelease n s
    | .deviceReset => Sys2Proof.Machine.execDeviceReset s
    | .deviceResetEnd => Sys2Proof.Machine.execDeviceResetEnd s
    | .presentChange k h => Sys2Proof.Machine.execPresentChange k h s
    | .riseAccepted k => Sys2Proof.Machine.execRiseAccepted k s
    | .fallAccepted k => Sys2Proof.Machine.execFallAccepted k s
    | .supplyFault k h => Sys2Proof.Machine.execSupplyFault k h s
    | .poweredForIncrease k => Sys2Proof.Machine.execPoweredForIncrease k s
    | .motionAssertion => Sys2Proof.Machine.execMotionAssertion s
    | .motionFall => Sys2Proof.Machine.execMotionFall s
    | .quietTimerExpiry => Sys2Proof.Machine.execQuietTimerExpiry s
    | .cutoffAssertion => Sys2Proof.Machine.execCutoffAssertion s
    | .cutoffDeassertion => Sys2Proof.Machine.execCutoffDeassertion s
    | .rmlWriteComplete => Sys2Proof.Machine.execRmlWriteComplete s
    | .rmlReadIncrementComplete words => Sys2Proof.Machine.execRmlReadIncrementComplete words s
    | .lockRise a => Sys2Proof.Machine.execLockRise a s
    | .lockFall a => Sys2Proof.Machine.execLockFall a s
    | .lockTimerExpiry p => Sys2Proof.Machine.execLockTimerExpiry p s
    | .settleTimerExpiry p => Sys2Proof.Machine.execSettleTimerExpiry p s
    | .calibrationCompletion p measured => Sys2Proof.Machine.execCalibrationCompletion p measured s
    | .relockTimerExpiry p => Sys2Proof.Machine.execRelockTimerExpiry p s
    | .countedSegmentCompletion l segment => Sys2Proof.Machine.execCountedSegmentCompletion l segment s
    | .settleCompletion l => Sys2Proof.Machine.execSettleCompletion l s
    | .efcSettleExpiry l => Sys2Proof.Machine.execEfcSettleExpiry l s
    | .runTimerExpiry l => Sys2Proof.Machine.execRunTimerExpiry l s
    | .etuInputTransition k h stamp => Sys2Proof.Machine.execEtuInputTransition k h stamp s
    | .filterWidthExpiry l => Sys2Proof.Machine.execFilterWidthExpiry l s
    | .edgeTimeout l => Sys2Proof.Machine.execEdgeTimeout l s
    | .answerShiftedOut n => Sys2Proof.Machine.execAnswerShiftedOut n s

end Sys2Proof.Machine
end

