-- ==== Sys2Proof/Safety.lean ====
section
/-!
DEFINITION. The laws the spec gives the blocks, as predicates on states. Certificates/ states that a step keeps them
and that the reset state has them.
-/
namespace Sys2Proof.Machine

/-- R147: in each station ring, the sizes of reserved and committed entries together never exceed 512 words. -/
def State.ringsFit (s : State) : Prop := ∀ n, (s.ring n).used ≤ 512

/-- R60, R61: the line is quiet exactly while MOTION is low and no quiet timer runs; a timer runs only while MOTION
is low; outside a device reset the monitor's motion and cutoff states are the levels of their inputs. -/
def State.lineLaw (s : State) : Prop :=
  (s.monitor.quiet = (!s.monitor.motion && s.monitor.quietTimer.isNone)) ∧
  (s.monitor.motion = true → s.monitor.quietTimer = none) ∧
  (s.inReset = false → s.monitor.motion = s.lines.motion ∧ s.monitor.cutoff = s.lines.cutoff)

/-- R49: a socket's supply is ON only while the socket is owned, its presence is accepted, it has no supply fault
and CUTOFF is deasserted; and never during a device reset. -/
def State.supplyLaw (s : State) : Prop :=
  ∀ k : SocketId, (s.socket k).supply = .on →
    (s.socket k).owner.isSome = true ∧ (s.socket k).presence = .present ∧ s.lines.sfault[k] = false ∧
    s.monitor.cutoff = false ∧ s.inReset = false

/-- R27, R34: a DEFINED mask holds contents that WRITE MASK admits. -/
def State.masksValid (s : State) : Prop := ∀ m c, (s.mask m).contents = some c → c.valid = true

/-- R86: at most 32 requests in the pool, at most 16 of one station. -/
def State.poolFits (s : State) : Prop :=
  s.pool.requests.length ≤ 32 ∧ ∀ n, (s.pool.ofStation n).length ≤ 16

/-- R66, R67, R73, R76: the range is that of the tuned frequency; three failed attempts are FAULT; every floor lies
within -1900 to -1000. -/
def Pair.lawful (p : Pair) : Prop :=
  p.range = p.tuned.map rangeOf ∧ (p.attempts ≤ 2 ∨ (p.attempts = 3 ∧ p.state = .fault)) ∧
  ∀ d : Fin 8, -1900 ≤ p.floors[d] ∧ p.floors[d] ≤ -1000

/-- Every pair is lawful. -/
def State.pairsLawful (s : State) : Prop := ∀ p, (s.pair p).lawful

/-- R106 to R108: a lane is IDLE exactly when it has no active run, and then its slot is empty; the hold set is
non-empty exactly in HELD, where a start is pending; the connected socket is the active run's. -/
def Lane.lawful (l : Lane) : Prop :=
  (l.state = .idle ↔ l.active = none) ∧ (l.active = none → l.slot = none) ∧
  ((l.holdQuiet || l.holdPair) = decide (l.state = .held)) ∧ (l.state = .held → l.pending ≠ .none) ∧
  l.connected = l.active.map fun c => c.request.socket

/-- Every lane is lawful. -/
def State.lanesLawful (s : State) : Prop := ∀ l, (s.lane l).lawful

/-! ## The work of the part: requests, runs, and what counts them -/

/-- The runs a lane holds: the active one and the one in its suspend slot. -/
def Lane.contexts (l : Lane) : List RunContext := l.active.toList ++ l.slot.toList

/-- The runs of the part, lane by lane. -/
def State.runs (s : State) : List RunContext := allLanes.flatMap fun l => (s.lane l).contexts

/-- The live requests: those in the pool, then those of the runs in lanes and suspend slots (R86, R88). -/
def State.liveRequests (s : State) : List Request := s.pool.requests ++ s.runs.map RunContext.request

/-- R38: a mask's reference count is the number of live requests that name it. -/
def State.masksCounted (s : State) : Prop :=
  ∀ m, (s.mask m).refCount = (s.liveRequests.filter fun q => decide (q.mask = m)).length

/-- R81: a pair's attachment count is the number of runs attached to it, in lanes and in suspend slots. -/
def State.pairsCounted (s : State) : Prop :=
  ∀ p, (s.pair p).attachments = (s.runs.filter fun c => decide (c.pair = some p)).length

/-- R56, R86: a socket has at most one live request, and its engagement, request and connected lane are that request's
place: QUEUED in the pool, RUNNING as a lane's active run, SUSPENDED in a slot, and IDLE with none. -/
def State.socketsEngaged (s : State) : Prop :=
  (s.liveRequests.map Request.socket).Nodup ∧
  (∀ q ∈ s.pool.requests, (s.socket q.socket).engagement = .queued ∧ (s.socket q.socket).request = some q.ref ∧
    (s.socket q.socket).lane = none) ∧
  (∀ l c, (s.lane l).active = some c → (s.socket c.request.socket).engagement = .running ∧
    (s.socket c.request.socket).request = some c.request.ref ∧ (s.socket c.request.socket).lane = some l) ∧
  (∀ l c, (s.lane l).slot = some c → (s.socket c.request.socket).engagement = .suspended ∧
    (s.socket c.request.socket).request = some c.request.ref ∧ (s.socket c.request.socket).lane = none) ∧
  ∀ k, (∀ q ∈ s.liveRequests, q.socket ≠ k) →
    (s.socket k).engagement = .idle ∧ (s.socket k).request = none ∧ (s.socket k).lane = none

/-- The laws of the work: R38 and R81 for the counts, R86 and R56 for the sockets, R108 for the input matrix (a lane and
a socket name each other), R88 (live requests have distinct names), and R101 (a lane with a full slot has no mark). -/
def State.workLaw (s : State) : Prop :=
  s.masksCounted ∧ s.pairsCounted ∧ s.socketsEngaged ∧
  (∀ l k, (s.lane l).connected = some k ↔ (s.socket k).lane = some l) ∧
  (s.liveRequests.map Request.ref).Nodup ∧
  ∀ l, (s.lane l).mark ≠ none → (s.lane l).slot = none

end Sys2Proof.Machine
end

