-- ==== Sys2Proof/Certificates/Slice0/Obligations.lean ====
section
/-!
DEFINITION. The statements for the provers. `s.answerAt n a` is s with port n in ANSWERING and the answer a formed
(R174); equalities with an explicit next state say the value and the frame at once.
-/
open Sys2Proof Sys2Proof.Machine

/-! ## Steps and the queue -/

/-- A step takes the command at the front of the queue and is `exec` of it on the queue's rest; on an empty queue it
lets one tick of the timebase pass and changes nothing else (model's choice, log 3). -/
def Obligations.StepRunsFrontCommand : Prop :=
  (∀ (c : Instr) (s : State), step { s with pending := c :: s.pending } = exec c s) ∧
  ∀ s : State, s.pending = [] → step s = .next { s with now := s.now + 1 }

/-- Every command and event completes in a next state, with the queue as it was. Model's readings: what has no place
in the present state changes nothing (log 12). -/
def Obligations.EveryCommandCompletesAndKeepsQueue : Prop :=
  ∀ (c : Instr) (s : State), ∃ t, exec c s = .next t ∧ t.pending = s.pending

/-! ## Frames and transactions -/

/-- R174, R183, R186: a port takes a command while it is RUNNING and RECEIVING outside a device reset. R175, wrong
fixed length: a known code with another payload length is answered FRAME with an empty payload, and nothing else
changes. R174, R183, R186 (log 12): a command or length error at a port that takes none (not RUNNING, not RECEIVING,
or in a device reset) changes nothing. -/
def Obligations.PortsTurnAwayWrongLengthsAndClosedPortsTakeNothing : Prop :=
  (∀ (n : StationId) (s : State),
    s.takes n = true ↔
      s.inReset = false ∧ (s.port n).resetState = .running ∧ (s.port n).transaction = .receiving) ∧
  (∀ (c : Instr) (n : StationId) (len : Nat) (code : Byte) (payload : List Byte) (s : State),
    portOf c = some n → payloadLength c = some len → frameOf c = some (code, payload) → payload.length ≠ len →
    s.takes n = true → exec c s = .next (s.answerAt n ⟨.frame, []⟩)) ∧
  ∀ (n : StationId) (s : State), s.takes n = false →
    (∀ c, portOf c = some n → exec c s = .next s) ∧ ∀ len, exec (.frameLengthError n len) s = .next s

/-- R176: an unknown code is answered OK with an empty payload while strict is off, UNKNOWN with the code while it is
on; with a length above 120 it is answered FRAME in either setting. Model's readings: a length error goes through
ANSWERING (log 23). -/
def Obligations.UnknownCodeFollowsStrict : Prop :=
  ∀ (n : StationId) (s : State), s.takes n = true →
    (∀ code payload, exec (.unknownCommand n code payload) s =
      .next (s.answerAt n (if (s.port n).strict then ⟨.unknown, [code]⟩ else ⟨.ok, []⟩))) ∧
    (∀ len : Byte, 120 < len.toNat → exec (.frameLengthError n len) s = .next (s.answerAt n ⟨.frame, []⟩))

/-- R174, R183, R186: CSN_FALL takes an idle RUNNING port to RECEIVING and leaves any other as it is; CSN_RISE takes a
port to IDLE from any transaction state; a formed answer shifted out takes it to DISCARDING. MISO is at high impedance
exactly in HELD, during a device reset and while CSN is high; otherwise it carries the bytes of a formed answer in
ANSWERING, its status code, length and payload, and the fill byte in every other case, an IDLE port among them.
Model's readings: what has no place in the present state changes nothing (log 12); outputs are functions of the state
(log 18); an IDLE port with CSN low drives the fill byte (log 26). -/
def Obligations.TransactionEventsMoveThePort : Prop :=
  (∀ x : Status, x.code = match x with
    | .ok => 0 | .busy => 1 | .notOwner => 2 | .owned => 3 | .stale => 4 | .absent => 5 | .inUse => 6 | .full => 7
    | .range => 8 | .cutoff => 9 | .noSuch => 10 | .empty => 11 | .frame => 12 | .unknown => 13) ∧
  ∀ (n : StationId) (s : State),
    let low := s.modLines fun x => { x with csn := x.csn.set n false }
    let high := s.modLines fun x => { x with csn := x.csn.set n true }
    (s.inReset = false → (s.port n).resetState = .running → (s.port n).transaction = .idle →
      exec (.csnFall n) s = .next (low.modPort n fun p => { p with transaction := .receiving, answer := none })) ∧
    (s.inReset = true ∨ (s.port n).resetState ≠ .running ∨ (s.port n).transaction ≠ .idle →
      exec (.csnFall n) s = .next low) ∧
    exec (.csnRise n) s = .next (high.modPort n fun p => { p with transaction := .idle, answer := none }) ∧
    (∀ a, (s.port n).transaction = .answering → (s.port n).answer = some a →
      exec (.answerShiftedOut n) s = .next (s.modPort n fun p => { p with transaction := .discarding, answer := none })) ∧
    (s.miso n = .highImpedance ↔ s.inReset = true ∨ (s.port n).resetState = .held ∨ s.lines.csn[n] = true) ∧
    (s.inReset = false → (s.port n).resetState ≠ .held → s.lines.csn[n] = false →
      (∀ a, (s.port n).transaction = .answering → (s.port n).answer = some a →
        s.miso n = .answer (a.status.code :: BitVec.ofNat 8 a.payload.length :: a.payload)) ∧
      ((s.port n).transaction ≠ .answering ∨ (s.port n).answer = none → s.miso n = .fill))

/-- R180, R178: GET STATUS answers its 14 bytes as they stand; in ON_READ mode every latched notice it reported is
then cleared, in ON_ACK mode none. Bit i of a byte of flags is its i-th flag, the notices and the enable set in the
order RECORD, SOCKET, PAIR, CUTOFF, COUNTER, RESET; the readable records are the leading committed entries, the free
words 512 less the entries' sizes, the requests those of the pool that are the station's, the runs those of the
station in the lanes and their slots, and bit k of the socket map says that the station owns socket k. -/
def Obligations.GetStatusReportsAndClearsByMode : Prop :=
  (∀ (flags : List Bool) (i : Nat), (bitsOf flags).testBit i = flags.getD i false) ∧
  (∀ v : Notices, v.bits = bitsOf [v.record, v.socket, v.pair, v.cutoff, v.counter, v.reset]) ∧
  (∀ (n : StationId) (s : State),
    let x := (s.port n).latched
    s.notices n = ⟨s.recordNotice n, x.socket, x.pair, x.cutoff, x.counter, x.reset⟩ ∧
    (∀ before after, (s.ring n).entries = before ++ after → (∀ e ∈ before, e.record.isSome = true) →
      (∀ e ∈ after.head?, e.record = none) → (s.ring n).readable = before.length) ∧
    (s.ring n).free = 512 - ((s.ring n).entries.map fun e => e.size).sum ∧
    s.pool.ofStation n = s.pool.requests.filter (fun q => decide (q.station = n)) ∧
    s.runsOf n = (([0, 1, 2, 3] : List LaneId).flatMap fun l =>
      (s.lane l).active.toList ++ (s.lane l).slot.toList).countP (fun c => decide (c.request.station = n)) ∧
    s.ownedBits n < 65536 ∧ ∀ k : SocketId, (s.ownedBits n).testBit k.val = decide ((s.socket k).owner = some n)) ∧
  ∀ (n : StationId) (s : State), s.takes n = true →
    exec (.getStatus n []) s = .next
      ((s.modPort n fun p => { p with latched := if p.clearMode = .onRead then ⟨false, false, false, false, false⟩ else p.latched }).answerAt n
        ⟨.ok,
          [BitVec.ofNat 8 (s.notices n).bits, BitVec.ofNat 8 (s.port n).enable.bits,
           BitVec.ofNat 8 (bitsOf [decide ((s.port n).clearMode = .onAck), (s.port n).strict, s.attnLow n]),
           BitVec.ofNat 8 n.val, BitVec.ofNat 8 (s.ring n).readable] ++ bytes16 (s.ring n).free ++
          [BitVec.ofNat 8 (s.pool.ofStation n).length, BitVec.ofNat 8 (s.runsOf n)] ++ bytes16 (s.ownedBits n) ++
          bytes16 (s.port n).nextId.toNat ++ [BitVec.ofNat 8 (bitsOf [s.monitor.quiet, s.monitor.cutoff])]⟩)

/-- R181: a byte with bit 6 or 7 set is answered RANGE and nothing changes; otherwise exactly the named latched
notices are cleared, RECORD in the byte clears nothing, and the answer is the notices as they then stand, in both
clear modes. Model's readings: answers described in words only, empty where none is described (log 5). -/
def Obligations.AckNoticesClearsTheNamed : Prop :=
  ∀ (n : StationId) (b : Byte) (s : State), s.takes n = true →
    (63 < b.toNat → exec (.ackNotices n [b]) s = .next (s.answerAt n ⟨.range, []⟩)) ∧
    (b.toNat ≤ 63 →
      let t := s.modPort n fun p =>
        { p with latched :=
            ⟨p.latched.socket && !b.getLsbD 1, p.latched.pair && !b.getLsbD 2, p.latched.cutoff && !b.getLsbD 3,
             p.latched.counter && !b.getLsbD 4, p.latched.reset && !b.getLsbD 5⟩ }
      exec (.ackNotices n [b]) s = .next (t.answerAt n ⟨.ok, [BitVec.ofNat 8 (t.notices n).bits]⟩))

/-- R182: a mode byte with a bit above 1 or an enable byte with a bit above 5 is answered RANGE; otherwise all three
fields of the port mode are replaced and the two bytes are the answer. Model's readings: answers described in words
only, empty where none is described (log 5). -/
def Obligations.SetPortModeReplacesAllThree : Prop :=
  ∀ (n : StationId) (m e : Byte) (s : State), s.takes n = true →
    (3 < m.toNat ∨ 63 < e.toNat → exec (.setPortMode n [m, e]) s = .next (s.answerAt n ⟨.range, []⟩)) ∧
    (m.toNat ≤ 3 → e.toNat ≤ 63 →
      exec (.setPortMode n [m, e]) s = .next
        ((s.modPort n fun p =>
          { p with
            clearMode := if m.getLsbD 0 then .onAck else .onRead
            strict := m.getLsbD 1
            enable := ⟨e.getLsbD 0, e.getLsbD 1, e.getLsbD 2, e.getLsbD 3, e.getLsbD 4, e.getLsbD 5⟩ }).answerAt n
          ⟨.ok, [m, e]⟩))

/-- R177, R179: RECORD is true exactly while the ring's head entry is committed; ATTN is low exactly while an enabled
notice is set or true and the port is RUNNING outside a device reset. -/
def Obligations.NoticesAndAttentionFollowTheState : Prop :=
  ∀ (n : StationId) (s : State),
    (s.recordNotice n = true ↔ ∃ e es r, (s.ring n).entries = e :: es ∧ e.record = some r) ∧
    (s.attnLow n = true ↔
      s.inReset = false ∧ (s.port n).resetState = .running ∧
      ((s.recordNotice n && (s.port n).enable.record) || ((s.port n).latched.socket && (s.port n).enable.socket) ||
       ((s.port n).latched.pair && (s.port n).enable.pair) || ((s.port n).latched.cutoff && (s.port n).enable.cutoff) ||
       ((s.port n).latched.counter && (s.port n).enable.counter) ||
       ((s.port n).latched.reset && (s.port n).enable.reset)) = true)

/-! ## Station reset and device reset -/

/-- R183, R185: an accepted STATION RESET begins a station reset and keeps its transaction in ANSWERING. A fall of
SRSTN starts its 1 µs; when the low has lasted it, a low that began in RUNNING begins a station reset and drops the
transaction, and one that began in RESETTING or HELD begins none. A rise before that leaves no effect; the rise of
SRSTN takes a HELD port to RUNNING and leaves a port in RESETTING or RUNNING as it is. Model's readings: a device
reset holds the ports (log 17); SRSTN_ASSERTION is a fall or the end of its 1 µs, and the level is the pin's (log 21).
-/
def Obligations.StationResetBeginsAndHeldEnds : Prop :=
  ResetProgress.start = ⟨.pool, 0, 0, 0, 0, 0⟩ ∧
  ∀ (n : StationId) (s : State),
    let low := s.modLines fun x => { x with srstn := x.srstn.set n false }
    let high := s.modLines fun x => { x with srstn := x.srstn.set n true }
    let begun := fun u : State => u.modPort n fun p =>
      { p with
        resetState := .resetting
        progress := ResetProgress.start
        transaction := .idle
        answer := none
        resetLow := none }
    (s.takes n = true → exec (.stationReset n []) s = .next (s.modPort n fun p =>
      { p with resetState := .resetting, progress := ResetProgress.start, transaction := .answering, answer := none })) ∧
    (∀ held, s.inReset = true → exec (.srstnAssertion ⟨n, held⟩) s = .next low) ∧
    (s.inReset = false → s.lines.srstn[n] = true →
      exec (.srstnAssertion ⟨n, false⟩) s = .next (low.modPort n fun p =>
        { p with resetLow := some ⟨s.now + 2000000, decide (p.resetState = .running)⟩ }) ∧
      ((s.port n).resetState = .running → exec (.srstnAssertion ⟨n, true⟩) s = .next (begun low)) ∧
      ((s.port n).resetState ≠ .running →
        exec (.srstnAssertion ⟨n, true⟩) s = .next (low.modPort n fun p => { p with resetLow := none }))) ∧
    (s.inReset = false → s.lines.srstn[n] = false →
      exec (.srstnAssertion ⟨n, false⟩) s = .next s ∧
      ((s.port n).resetLow = none → exec (.srstnAssertion ⟨n, true⟩) s = .next s) ∧
      (∀ e, (s.port n).resetLow = some ⟨e, true⟩ →
        exec (.srstnAssertion ⟨n, true⟩) s = .next (begun { s with now := max s.now e })) ∧
      (∀ e, (s.port n).resetLow = some ⟨e, false⟩ →
        exec (.srstnAssertion ⟨n, true⟩) s = .next
          (({ s with now := max s.now e } : State).modPort n fun p => { p with resetLow := none }))) ∧
    (s.inReset = false → (s.port n).resetState = .held →
      exec (.srstnRelease n) s = .next
        (high.modPort n fun p => { p with resetLow := none, resetState := .running })) ∧
    (s.inReset = true ∨ (s.port n).resetState ≠ .held →
      exec (.srstnRelease n) s = .next (high.modPort n fun p => { p with resetLow := none }))

/-- R93, R129, R184 steps 1 and 2: in its place each step removes the station's requests from the pool, or aborts its
runs lane by lane, in each the suspended one first, counts them and names the next step; after the first the pool
holds no request of the station. Model's readings: lanes are served in ascending order (log 7); what has no place in
the present state changes nothing (log 12). -/
def Obligations.StationResetPoolAndLaneSteps : Prop :=
  (∀ (n : StationId) (x : Option RunContext), ownedBy n x = true ↔ ∃ c, x = some c ∧ c.request.station = n) ∧
  ∀ (n : StationId) (s : State), (s.port n).resetState = .resetting →
    ((s.port n).progress.next = .pool →
      exec (.resetStepPool n) s = .next
        ((arbitrate ((s.pool.ofStation n).foldl leavePool s)).modPort n fun p =>
          { p with progress := { p.progress with next := .lanes, requests := (s.pool.ofStation n).length } }) ∧
      (arbitrate ((s.pool.ofStation n).foldl leavePool s)).pool.ofStation n = []) ∧
    ((s.port n).progress.next = .lanes →
      exec (.resetStepLanes n) s = .next
        ((allLanes.foldl (abortWhere (ownedBy n) .stationReset) s).modPort n fun p =>
          { p with progress := { p.progress with next := .ring, runs := s.runsOf n } }))

/-- R158, R65, R184 steps 3 and 4: the station's ring is emptied and the runs of other stations with a copy reserved
there drop it and name the station as skipped, every other run unchanged; every socket the station owns is given up
with its supply off, its presence, load generation and flags kept. Model's readings: what has no place in the present
state changes nothing (log 12). -/
def Obligations.StationResetRingAndSocketSteps : Prop :=
  (∀ (n : StationId) (r : Ring) (c : RunContext),
    let reserved := ∃ e ∈ r.entries, e.record = none ∧ e.role = .copy ∧ e.run = ⟨c.request.station, c.request.id⟩
    (reserved → dropCopy n r c = { c with refs := c.refs.set n false, skipped := c.skipped.set n true }) ∧
    (¬ reserved → dropCopy n r c = c)) ∧
  ∀ (n : StationId) (s : State), (s.port n).resetState = .resetting →
    ((s.port n).progress.next = .ring →
      exec (.resetStepRing n) s = .next
        ((arbitrate
          { s with
            lanes := Vector.ofFn fun l =>
              { s.lane l with
                active := (s.lane l).active.map (dropCopy n (s.ring n))
                slot := (s.lane l).slot.map (dropCopy n (s.ring n)) }
            rings := updateAt s.rings n fun _ => ⟨[]⟩ }).modPort n fun p =>
          { p with progress :=
            { p.progress with
              next := .sockets
              entries := (s.ring n).entries.length
              copies := ((s.ring n).entries.filter fun e => e.record.isNone && decide (e.role = .copy)).length } })) ∧
    ((s.port n).progress.next = .sockets →
      exec (.resetStepSockets n) s = .next
        ((arbitrate
          { s with sockets := Vector.ofFn fun k =>
              if (s.socket k).owner = some n then
                { s.socket k with supply := .off, poweredFor := 0, efcCode := 0, efcOutput := 0, owner := none }
              else s.socket k }).modPort n fun p =>
          { p with progress :=
            { p.progress with
              next := .port
              sockets := (allSockets.filter fun k => decide ((s.socket k).owner = some n)).length } }))

/-- R173, R184 steps 5 and 6, R183, R185: the port mode returns to its defaults with every latched notice cleared; the
request id counter returns to 0; the port then enters RUNNING and forms the five counts as the answer of a STATION
RESET still in progress, or enters HELD with its transaction dropped while SRSTN is low. Model's readings: what has no
place in the present state changes nothing (log 12); SRSTN_ASSERTION is a fall or the end of its 1 µs, and the level
is the pin's (log 21). -/
def Obligations.StationResetPortAndIdSteps : Prop :=
  ∀ (n : StationId) (s : State), (s.port n).resetState = .resetting →
    ((s.port n).progress.next = .port →
      exec (.resetStepPort n) s = .next (s.modPort n fun p =>
        { p with
          clearMode := .onRead
          strict := false
          enable := ⟨true, true, true, true, true, true⟩
          latched := ⟨false, false, false, false, false⟩
          progress := { p.progress with next := .requestIds } })) ∧
    ((s.port n).progress.next = .requestIds → s.lines.srstn[n] = true →
      exec (.resetStepRequestIds n) s = .next (s.modPort n fun p =>
        { p with
          nextId := 0
          resetState := .running
          answer := if p.transaction = .answering then
              some ⟨.ok, [BitVec.ofNat 8 p.progress.requests, BitVec.ofNat 8 p.progress.runs,
                BitVec.ofNat 8 p.progress.sockets, BitVec.ofNat 8 p.progress.entries,
                BitVec.ofNat 8 p.progress.copies]⟩
            else none })) ∧
    ((s.port n).progress.next = .requestIds → s.lines.srstn[n] = false →
      exec (.resetStepRequestIds n) s = .next (s.modPort n fun p =>
        { p with nextId := 0, resetState := .held, transaction := .idle, answer := none }))

/-- R186: a device reset gives every block its reset values for the present input levels, with no record composed, and
holds every port, with ATTN high and MISO at high impedance; its end gives every block those values with the ports
released, and time starts from 0; outside a device reset the end changes nothing. Model's readings: what has no place
in the present state changes nothing (log 12); a device reset holds the ports (log 17). -/
def Obligations.DeviceResetAndItsEnd : Prop :=
  ∀ s : State,
    exec .deviceReset s = .next
      { State.ofReset s.lines s.pending with
        inReset := true
        ports := Vector.replicate 4
          ⟨.onRead, false, ⟨true, true, true, true, true, true⟩, ⟨false, false, false, false, false⟩, 0, .idle, none,
            .held, ResetProgress.start, none⟩ } ∧
    (∃ t, exec .deviceReset s = .next t ∧ t.inReset = true ∧ t.pending = s.pending ∧ t.lines = s.lines ∧
      (∀ n, (t.port n).resetState = .held ∧ (t.port n).transaction = .idle ∧ t.attnLow n = false ∧
        t.recordNotice n = false ∧ t.miso n = .highImpedance) ∧
      (∀ l, (t.lane l).active = none ∧ (t.lane l).slot = none) ∧ t.pool.requests = [] ∧
      (∀ n, (t.ring n).entries = []) ∧ (∀ k, (t.socket k).supply = .off ∧ (t.socket k).owner = none)) ∧
    exec .deviceResetEnd s = .next (if s.inReset then State.ofReset s.lines s.pending else s) ∧
    (s.inReset = true → exec .deviceResetEnd s = .next (State.ofReset s.lines s.pending)) ∧
    (s.inReset = false → exec .deviceResetEnd s = .next s)

/-- R27, R43, R60, R66, R72, R85, R106, R133, R147, R165, R173: the device reset values of every block, as functions
of the input levels. Model's readings: reset values the spec does not state (log 15). -/
def Obligations.DeviceResetValues : Prop :=
  ∀ (x : Lines) (q : List Instr),
    let s := State.ofReset x q
    s.now = 0 ∧ s.inReset = false ∧
    (∀ k : SocketId, s.socket k =
      ⟨.absent, if x.present[k] then some (10 * 2000000000) else none, 0, false, false, none, .off, 0, 0, 0, 0, .idle,
        none, none⟩) ∧
    s.monitor = ⟨x.motion, none, 20, !x.motion, x.cutoff⟩ ∧
    (∀ m, s.mask m = ⟨none, 0, 0⟩) ∧ s.pool = ⟨[], 0, 3⟩ ∧ (∀ p : PairId, s.retune[p] = none) ∧
    (∀ p, s.pair p =
      ⟨.off, none, none, 0, true, false, none, 0, Vector.replicate 8 (-1000), .none, 0, 0, [], none, none, none, false⟩) ∧
    s.link = ⟨none, 0⟩ ∧
    (∀ l, s.lane l = ⟨.idle, false, false, .none, none, none, none, none, none,
      ⟨.stopped, none, false, none, [], 0, ⟨0, 0, none, none, 0⟩, 0, none⟩⟩) ∧
    (∀ n, s.ring n = ⟨[]⟩) ∧
    s.counters = ⟨Vector.replicate 16 (Vector.replicate 6 0), false, false, false, none⟩ ∧
    (∀ n : StationId, s.port n =
      ⟨.onRead, false, ⟨true, true, true, true, true, true⟩, ⟨false, false, false, false, true⟩, 0, .idle, none,
        if x.srstn[n] then .running else .held, ResetProgress.start, none⟩)

/-! ## Sockets -/

/-- R47: CLAIM SOCKET above 15 is RANGE; an unowned socket is taken; one's own stays; another's is answered OWNED with
the owner. An OK answer carries number, accepted presence and load generation. Model's readings: answers described in
words only, empty where none is described (log 5). -/
def Obligations.ClaimSocketTakesAnUnownedSocket : Prop :=
  ∀ (n : StationId) (b : Byte) (s : State), s.takes n = true →
    (15 < b.toNat → exec (.claimSocket n [b]) s = .next (s.answerAt n ⟨.range, []⟩)) ∧
    ∀ k : SocketId, b.toNat = k.val →
      let ok : Answer := ⟨.ok, [b, if (s.socket k).presence = .present then 1 else 0] ++
        bytes16 (s.socket k).loadGen.toNat⟩
      ((s.socket k).owner = none →
        exec (.claimSocket n [b]) s = .next ((s.modSocket k fun x => { x with owner := some n }).answerAt n ok)) ∧
      ((s.socket k).owner = some n → exec (.claimSocket n [b]) s = .next (s.answerAt n ok)) ∧
      (∀ o, o ≠ n → (s.socket k).owner = some o →
        exec (.claimSocket n [b]) s = .next (s.answerAt n ⟨.owned, [BitVec.ofNat 8 o.val]⟩))

/-- R48: RELEASE SOCKET above 15 is RANGE, of another's or no one's socket NOT_OWNER, with a run BUSY; otherwise a
queued request leaves the pool and the socket is given up, its presence, load generation and flags kept. Model's
readings: answers described in words only, empty where none is described (log 5). -/
def Obligations.ReleaseSocketGivesUp : Prop :=
  ∀ (n : StationId) (b : Byte) (s : State), s.takes n = true →
    (15 < b.toNat → exec (.releaseSocket n [b]) s = .next (s.answerAt n ⟨.range, []⟩)) ∧
    ∀ k : SocketId, b.toNat = k.val →
      let up : Socket → Socket := fun x =>
        { x with supply := .off, poweredFor := 0, efcCode := 0, efcOutput := 0, owner := none }
      ((s.socket k).owner ≠ some n → exec (.releaseSocket n [b]) s = .next (s.answerAt n ⟨.notOwner, []⟩)) ∧
      ((s.socket k).owner = some n →
        (((s.socket k).engagement = .running ∨ (s.socket k).engagement = .suspended) →
          exec (.releaseSocket n [b]) s = .next (s.answerAt n ⟨.busy, []⟩)) ∧
        ((s.socket k).engagement = .idle →
          exec (.releaseSocket n [b]) s = .next
            ((arbitrate (s.modSocket k up)).answerAt n ⟨.ok, [b, 0xFF, 0xFF]⟩)) ∧
        (∀ r q, (s.socket k).engagement = .queued → (s.socket k).request = some r → s.queued r = some q →
          exec (.releaseSocket n [b]) s = .next
            ((arbitrate ((leavePool s q).modSocket k up)).answerAt n ⟨.ok, [b] ++ bytes16 q.id.toNat⟩)))

/-- R50: POWER SOCKET ON takes its checks in order: RANGE, NOT_OWNER, ABSENT, CUTOFF, BUSY in FAULT; on an ON supply
it changes nothing; on an OFF supply the supply comes ON with powered-for 0 and the output at the code, or takes a
supply fault when SFAULT is high. Model's readings: timers hold their ends and an expiry moves the time there (log 2);
answers described in words only, empty where none is described (log 5); the setting byte chooses the row (log 13). -/
def Obligations.PowerOnChecksThenPowers : Prop :=
  ∀ (n : StationId) (b v : Byte) (s : State), s.takes n = true →
    (15 < b.toNat ∨ 1 < v.toNat → exec (.powerSocketOn n [b, v]) s = .next (s.answerAt n ⟨.range, []⟩)) ∧
    ∀ k : SocketId, b.toNat = k.val → v = 1 →
      let x := s.socket k
      (x.owner ≠ some n → exec (.powerSocketOn n [b, v]) s = .next (s.answerAt n ⟨.notOwner, []⟩)) ∧
      (x.owner = some n → x.presence = .absent →
        exec (.powerSocketOn n [b, v]) s = .next (s.answerAt n ⟨.absent, []⟩)) ∧
      (x.owner = some n → x.presence = .present → s.monitor.cutoff = true →
        exec (.powerSocketOn n [b, v]) s = .next (s.answerAt n ⟨.cutoff, []⟩)) ∧
      (x.owner = some n → x.presence = .present → s.monitor.cutoff = false →
        (x.supply = .fault → exec (.powerSocketOn n [b, v]) s = .next (s.answerAt n ⟨.busy, []⟩)) ∧
        (x.supply = .on → exec (.powerSocketOn n [b, v]) s = .next (s.answerAt n ⟨.ok, [1]⟩)) ∧
        (x.supply = .off → s.lines.sfault[k] = false → ∃ t,
          t = arbitrate (s.modSocket k fun y =>
            { y with supply := .on, poweredFor := 0, secondEnd := s.now + 2000000000000, efcOutput := y.efcCode }) ∧
          exec (.powerSocketOn n [b, v]) s = .next (t.answerAt n ⟨.ok, [1]⟩)) ∧
        (x.supply = .off → s.lines.sfault[k] = true → ∃ t,
          t = dropOrAbort ((s.modSocket k fun y =>
              { y with supply := .fault, poweredFor := 0, efcCode := 0, efcOutput := 0 }).latch n
                fun l => { l with socket := true }) k .supply ∧
          exec (.powerSocketOn n [b, v]) s = .next (t.answerAt n ⟨.ok, [2]⟩)))

/-- R51: POWER SOCKET OFF: RANGE, NOT_OWNER, BUSY with a run; OFF from OFF changes nothing; from ON or FAULT the
supply becomes OFF with powered-for and EFC 0, and a queued request stays queued. Model's readings: answers described
in words only, empty where none is described (log 5); the setting byte chooses the row (log 13). -/
def Obligations.PowerOffTurnsTheSupplyOff : Prop :=
  ∀ (n : StationId) (b : Byte) (s : State), s.takes n = true →
    (15 < b.toNat → exec (.powerSocketOff n [b, 0]) s = .next (s.answerAt n ⟨.range, []⟩)) ∧
    ∀ k : SocketId, b.toNat = k.val →
      let x := s.socket k
      (x.owner ≠ some n → exec (.powerSocketOff n [b, 0]) s = .next (s.answerAt n ⟨.notOwner, []⟩)) ∧
      (x.owner = some n → (x.engagement = .running ∨ x.engagement = .suspended) →
        exec (.powerSocketOff n [b, 0]) s = .next (s.answerAt n ⟨.busy, []⟩)) ∧
      (x.owner = some n → (x.engagement = .idle ∨ x.engagement = .queued) →
        (x.supply = .off → exec (.powerSocketOff n [b, 0]) s = .next (s.answerAt n ⟨.ok, [0]⟩)) ∧
        (x.supply ≠ .off → exec (.powerSocketOff n [b, 0]) s = .next
          ((arbitrate (s.modSocket k fun y =>
            { y with supply := .off, poweredFor := 0, efcCode := 0, efcOutput := 0 })).answerAt n ⟨.ok, [0]⟩)))

/-- R55: SET EFC: RANGE, NOT_OWNER, BUSY while a PULL CHECK is RUNNING, the active run of the socket's lane; otherwise
the code takes the value, and the output follows it exactly while the supply is ON. Model's readings: answers
described in words only, empty where none is described (log 5). -/
def Obligations.SetEfcStoresTheCode : Prop :=
  (∀ (k : SocketId) (s : State), s.pullRunning k = true ↔
    ∃ l c, (s.socket k).lane = some l ∧ (s.lane l).active = some c ∧ c.request.kind = .pullCheck) ∧
  ∀ (n : StationId) (b lo hi : Byte) (s : State), s.takes n = true →
    let v := lo.toNat + 256 * hi.toNat
    (15 < b.toNat ∨ 4095 < v → exec (.setEfc n [b, lo, hi]) s = .next (s.answerAt n ⟨.range, []⟩)) ∧
    ∀ k : SocketId, b.toNat = k.val → v ≤ 4095 →
      ((s.socket k).owner ≠ some n → exec (.setEfc n [b, lo, hi]) s = .next (s.answerAt n ⟨.notOwner, []⟩)) ∧
      ((s.socket k).owner = some n → s.pullRunning k = true →
        exec (.setEfc n [b, lo, hi]) s = .next (s.answerAt n ⟨.busy, []⟩)) ∧
      ((s.socket k).owner = some n → s.pullRunning k = false →
        exec (.setEfc n [b, lo, hi]) s = .next
          ((s.modSocket k fun x =>
            { x with
              efcCode := BitVec.ofNat 12 v
              efcOutput := if x.supply = .on then BitVec.ofNat 12 v else x.efcOutput }).answerAt n ⟨.ok, [lo, hi]⟩))

/-- R59: QUERY SOCKET answers its 20 bytes with the flags as they were; the owner's query then clears both flags, any
other station's changes nothing. Model's readings: answers described in words only, empty where none is described (log
5). -/
def Obligations.QuerySocketReportsAndClearsFlags : Prop :=
  (∀ x : Supply, x.code = match x with | .off => 0 | .on => 1 | .fault => 2) ∧
  (∀ x : Engagement, x.code = match x with | .idle => 0 | .queued => 1 | .running => 2 | .suspended => 3) ∧
  ∀ (n : StationId) (b : Byte) (s : State), s.takes n = true →
    (15 < b.toNat → exec (.querySocket n [b]) s = .next (s.answerAt n ⟨.range, []⟩)) ∧
    ∀ k : SocketId, b.toNat = k.val →
      let x := s.socket k
      let a : Answer := ⟨.ok,
        [b, BitVec.ofNat 8 (bitsOf [decide (x.presence = .present), s.lines.present[k], x.debounce.isSome, x.rose,
            x.fell])] ++ bytes16 x.loadGen.toNat ++
        [BitVec.ofNat 8 (numberOr 255 x.owner), BitVec.ofNat 8 (x.supply.code + 128 * s.lines.sfault[k].toNat)] ++
        bytes16 x.poweredFor ++ bytes16 x.efcCode.toNat ++ bytes16 x.efcOutput.toNat ++
        [BitVec.ofNat 8 x.engagement.code,
         BitVec.ofNat 8 (match x.request with | none => 255 | some r => r.station.val)] ++
        bytes16 (match x.request with | none => 65535 | some r => r.id.toNat) ++
        [BitVec.ofNat 8 (numberOr 255 x.lane),
         BitVec.ofNat 8 (bitsOf [s.monitor.motion, s.monitor.quiet, s.monitor.cutoff]), s.monitor.quietTime, 0]⟩
      a.payload.length = 20 ∧
      (x.owner = some n → exec (.querySocket n [b]) s = .next
        ((s.modSocket k fun y => { y with rose := false, fell := false }).answerAt n a)) ∧
      (x.owner ≠ some n → exec (.querySocket n [b]) s = .next (s.answerAt n a))

/-- R62: SET QUIET TIME stores any byte and answers it; a running timer and the quiet condition are not changed.
Model's readings: answers described in words only, empty where none is described (log 5). -/
def Obligations.SetQuietTimeStoresTheByte : Prop :=
  ∀ (n : StationId) (b : Byte) (s : State), s.takes n = true →
    exec (.setQuietTime n [b]) s = .next
      ((s.modMonitor fun m => { m with quietTime := b }).answerAt n ⟨.ok, [b]⟩)

/-- R44: a PRESENT level that differs from the accepted presence starts a full interval, 10 ms for a rise and 2 ms for
a fall; one that agrees makes the debounce IDLE; presence is unchanged. Model's readings: timers hold their ends and
an expiry moves the time there (log 2); a device reset holds the ports (log 17). -/
def Obligations.PresentChangeStartsOrCancelsDebounce : Prop :=
  ∀ (k : SocketId) (high : Bool) (s : State), s.inReset = false → s.lines.present[k] ≠ high →
    exec (.presentChange k high) s = .next
      ((s.modLines fun x => { x with present := x.present.set k high }).modSocket k fun x =>
        { x with debounce :=
            if high = true ∧ x.presence = .absent then some (s.now + 10 * 2000000000)
            else if high = false ∧ x.presence = .present then some (s.now + 2 * 2000000000)
            else none })

/-- R45: an accepted rise makes presence PRESENT, raises the load generation by 1, sets the rose flag and notifies the
owner, if any. Model's readings: timers hold their ends and an expiry moves the time there (log 2); a device reset
holds the ports (log 17). -/
def Obligations.RiseAcceptedMakesPresent : Prop :=
  (∀ (s : State) (owner : Option StationId), s.noticeSocket owner = match owner with
    | none => s
    | some n => s.modPort n fun p => { p with latched := { p.latched with socket := true } }) ∧
  ∀ (k : SocketId) (d : Nat) (s : State), s.inReset = false → (s.socket k).presence = .absent →
    (s.socket k).debounce = some d →
    exec (.riseAccepted k) s = .next
      ((({ s with now := max s.now d } : State).modSocket k fun x =>
        { x with presence := .present, debounce := none, loadGen := x.loadGen + 1, rose := true }).noticeSocket
          (s.socket k).owner)

/-- R46, R57: an accepted fall makes presence ABSENT, turns an ON supply OFF and keeps FAULT, zeroes powered-for and
EFC, sets the fell flag and notifies the owner; then a queued request is dropped or a run aborted REMOVED. Model's
readings: timers hold their ends and an expiry moves the time there (log 2). -/
def Obligations.FallAcceptedMakesAbsent : Prop :=
  ∀ (k : SocketId) (d : Nat) (s : State), (s.socket k).presence = .present → (s.socket k).debounce = some d →
    exec (.fallAccepted k) s = .next
      (dropOrAbort
        ((({ s with now := max s.now d } : State).modSocket k fun x =>
          { x with
            presence := .absent
            debounce := none
            fell := true
            supply := if x.supply = .on then .off else x.supply
            poweredFor := 0
            efcCode := 0
            efcOutput := 0 }).noticeSocket (s.socket k).owner) k .removed)

/-- R57: a socket event with an abort cause leaves an IDLE socket's work alone, drops a QUEUED request without a
record and aborts a RUNNING or SUSPENDED run with the cause. R91, R38: a request that leaves the pool without dispatch
is removed, its mask's reference count falls by 1 and its socket becomes IDLE; nothing else is touched. -/
def Obligations.SocketEventsReachTheWork : Prop :=
  (∀ (q : Request) (s : State),
    leavePool s q =
      { s with
        pool := { s.pool with requests := s.pool.requests.filter fun x => !decide (x.ref = q.ref) }
        masks := updateAt s.masks q.mask fun e => { e with refCount := e.refCount - 1 }
        sockets := updateAt s.sockets q.socket fun k =>
          { k with engagement := .idle, request := none, lane := none } }) ∧
  ∀ (k : SocketId) (cause : AbortCause) (s : State),
    ((s.socket k).engagement = .idle → dropOrAbort s k cause = s) ∧
    (∀ r q, (s.socket k).engagement = .queued → (s.socket k).request = some r → s.queued r = some q →
      dropOrAbort s k cause = arbitrate (leavePool s q)) ∧
    (∀ r l, (s.socket k).engagement = .running → (s.socket k).request = some r → s.laneRunning r = some l →
      dropOrAbort s k cause = endActive s l .aborted (some cause)) ∧
    (∀ r l, (s.socket k).engagement = .suspended → (s.socket k).request = some r → s.laneRunning r = none →
      s.laneHolding r = some l → dropOrAbort s k cause = abortSlot s l cause)

/-- R52: a rise of SFAULT while the supply is ON is a supply fault; a rise in OFF or FAULT and a fall change the level
alone. Model's readings: operands of the line events (log 14). -/
def Obligations.SupplyFaultOnlyFromOn : Prop :=
  ∀ (k : SocketId) (s : State),
    let t := fun high => s.modLines fun x => { x with sfault := x.sfault.set k high }
    (s.inReset = false → s.lines.sfault[k] = false → (s.socket k).supply = .on →
      exec (.supplyFault k true) s = .next
        (dropOrAbort
          (((t true).modSocket k fun x =>
            { x with supply := .fault, poweredFor := 0, efcCode := 0, efcOutput := 0 }).noticeSocket
              (s.socket k).owner) k .supply)) ∧
    ((s.socket k).supply ≠ .on → exec (.supplyFault k true) s = .next (t true)) ∧
    exec (.supplyFault k false) s = .next (t false)

/-- R53: at the end of a full second of supply ON powered-for rises by 1 and stops at 65535; the pool takes the
increase. While the supply is not ON there is no increase. Model's readings: timers hold their ends and an expiry
moves the time there (log 2); what has no place in the present state changes nothing (log 12). -/
def Obligations.PoweredForCountsSeconds : Prop :=
  ∀ (k : SocketId) (s : State),
    ((s.socket k).supply = .on →
      exec (.poweredForIncrease k) s = .next
        (arbitrate (({ s with now := max s.now (s.socket k).secondEnd } : State).modSocket k fun x =>
          { x with
            poweredFor := if 65535 < x.poweredFor + 1 then 65535 else x.poweredFor + 1
            secondEnd := x.secondEnd + 2000000000000 }))) ∧
    ((s.socket k).supply ≠ .on → exec (.poweredForIncrease k) s = .next s)

/-! ## The line monitor and CUTOFF -/

/-- R60, R61: a rise of MOTION makes the line not quiet, discards the quiet timer and is offered to every lane; a fall
starts the timer with the setting, or with a setting of 0 makes the line quiet at once; at the timer's expiry the line
becomes quiet and the quiet event is offered to every lane. R109: the quiet event makes a HELD lane remove QUIET, and
start its pending work when no hold is left; any other lane has nothing to remove. Model's readings: timers hold their
ends and an expiry moves the time there (log 2); lanes are served in ascending order (log 7). -/
def Obligations.MotionMakesAndEndsNotQuiet : Prop :=
  (∀ (u : State) (l : LaneId),
    ((u.lane l).state ≠ .held → quietAt u l = u) ∧
    ((u.lane l).state = .held → (u.lane l).holdPair = true →
      quietAt u l = u.modLane l fun x => { x with holdQuiet := false }) ∧
    ((u.lane l).state = .held → (u.lane l).holdPair = false → quietAt u l = comeToStart u l (u.lane l).pending)) ∧
  ∀ s : State, s.inReset = false →
    let quiet := fun u : State =>
      arbitrate (allLanes.foldl quietAt (u.modMonitor fun m => { m with quiet := true, quietTimer := none }))
    let low := (s.modLines fun x => { x with motion := false }).modMonitor fun m => { m with motion := false }
    (s.lines.motion = false →
      exec .motionAssertion s = .next (allLanes.foldl motionAt
        ((s.modLines fun x => { x with motion := true }).modMonitor fun m =>
          { m with motion := true, quiet := false, quietTimer := none }))) ∧
    (s.lines.motion = true → s.monitor.quietTime = 0 → exec .motionFall s = .next (quiet low)) ∧
    (s.lines.motion = true → s.monitor.quietTime ≠ 0 →
      exec .motionFall s = .next (low.modMonitor fun m =>
        { m with quietTimer := some (s.now + s.monitor.quietTime.toNat * 2000000000) })) ∧
    (∀ d, s.monitor.quietTimer = some d →
      exec .quietTimerExpiry s = .next (quiet { s with now := max s.now d }))

/-- R116, R117: a motion assertion offered to a lane in EDGE or CORRELATE discards its work, adds MOTION, bumps
DISTURBED, and ends the run under ABORT or past the retry limit, or has the lane come to start the same work again; in
SETTLE the lane comes to start a SETTLE again; in IDLE and HELD nothing happens. R140: a stop of a unit stops its
timeout, drops its qualification and discards its history, period count, statistics and glitch count; a unit in
STOPPED stays as it is. -/
def Obligations.MotionAtALaneFollowsThePolicy : Prop :=
  (∀ e : Etu,
    (e.state = .stopped → e.stop = e) ∧
    (e.state ≠ .stopped → e.stop =
      { e with
        state := .stopped
        qualification := none
        history := []
        periods := 0
        stats := ⟨0, 0, none, none, 0⟩
        glitches := 0
        timeout := none })) ∧
  ∀ (s : State) (l : LaneId),
    ((s.lane l).state = .idle ∨ (s.lane l).state = .held → motionAt s l = s) ∧
    ∀ c, (s.lane l).active = some c →
      let left := fun d : RunContext => bumpYield
        (s.modLane l fun x =>
          { x with
            holdQuiet := false
            holdPair := false
            pending := .none
            interval := none
            etu := x.etu.stop
            active := some d }) d.request.socket 5
      let work : PendingStart := if (s.lane l).state = .edge then .edgeStage else .countedSegment
      ((s.lane l).state = .settle → motionAt s l = comeToStart (s.modLane l fun x =>
        { x with
          holdQuiet := false
          holdPair := false
          pending := .none
          interval := none
          etu := x.etu.stop }) l .settle) ∧
      ((s.lane l).state = .edge ∨ (s.lane l).state = .correlate →
        (c.mask.policy = .abort →
          motionAt s l = endActive (left { c with disturbances := { c.disturbances with motion := true } }) l
            .disturbed none) ∧
        (c.mask.policy = .repeatWork →
          let d := { c with
            retries := c.retries + 1
            disturbances := { c.disturbances with motion := true, retried := true } }
          motionAt s l =
            if c.mask.retryLimit < c.retries + 1 then endActive (left d) l .disturbed none
            else comeToStart (left d) l work) ∧
        (c.mask.policy = .wait →
          motionAt s l = comeToStart
            (left { c with disturbances := { c.disturbances with motion := true, waited := true } }) l work))

/-- R63, R64: a rise of CUTOFF turns every ON supply OFF, aborts every run CUTOFF, lane by lane and the suspended run
first, and sets CUTOFF at every port, with queued requests kept; a fall ends the assertion and nothing more. R127: in
a lane that an abort event reaches, the slot's run that meets the event's test is aborted in place first, then the
active run that met it at the event ends ABORTED with the cause; a run that does not meet it is left alone. Model's
readings: lanes are served in ascending order (log 7). -/
def Obligations.CutoffTakesPowerAndEndsRuns : Prop :=
  (∀ (test : Option RunContext → Bool) (cause : AbortCause) (s : State) (l : LaneId),
    let t := if test (s.lane l).slot = true then abortSlot s l cause else s
    abortWhere test cause s l =
      if test (s.lane l).active = true then endActive t l .aborted (some cause) else t) ∧
  (∀ (s : State) (f : Latched → Latched),
    s.latchAll f = { s with ports := Vector.ofFn fun n => { s.port n with latched := f (s.port n).latched } }) ∧
  ∀ s : State, s.inReset = false →
    (s.lines.cutoff = false → ∃ t,
      t = allLanes.foldl (abortWhere Option.isSome .cutoff)
        ({ (s.modLines fun x => { x with cutoff := true }).modMonitor fun m => { m with cutoff := true } with
          sockets := Vector.ofFn fun k =>
            if (s.socket k).supply = .on then
              { s.socket k with supply := .off, poweredFor := 0, efcCode := 0, efcOutput := 0 }
            else s.socket k }) ∧
      exec .cutoffAssertion s = .next ((arbitrate t).latchAll fun l => { l with cutoff := true })) ∧
    exec .cutoffDeassertion s = .next
      ((s.modLines fun x => { x with cutoff := false }).modMonitor fun m => { m with cutoff := false })

/-! ## Masks -/

/-- R33, R34: WRITE MASK: FRAME below 18 bytes, RANGE naming field 1 above 23, IN_USE while the count is above 0, then
the checks of the body in order: parts present (field 2), FRAME where the band count byte is missing, the band count
(field 3), FRAME for another length than the parts imply, then fields 4 to 28 in the order of R34, band by band, each
part's when it is present. The first that fails gives the answer, and a body that fails none is accepted: the entry is
replaced whole, its version rises by 1, and its contents are the fields of the mask frame layout, which the ranges of
R28 to R32 admit. Model's readings: answers described in words only, empty where none is described (log 5). -/
def Obligations.WriteMaskChecksThenReplaces : Prop :=
  (∀ b : List Byte,
    let at8 := fun i => (b.getD i 0).toNat
    let at16 := fun i => at8 i + 256 * at8 (i + 1)
    let at32 := fun i => at16 i + 65536 * at16 (i + 2)
    let signed := fun i => if at16 i < 32768 then (at16 i : Int) else (at16 i : Int) - 65536
    let part := fun i => decide (at8 17 / 2 ^ i % 2 = 1)
    let f := at32 1
    let o := 18 + if part 0 then 8 else 0
    let count := at8 (o + 4)
    let u := o + if part 1 then 5 + 4 * count else 0
    let invalid := fun d => decide (7 < d ∨ f ≤ 4 * 10 ^ d)
    let header : List (Bool × Nat × Nat) :=
      [(decide (f < 1000000 ∨ 200000000 < f), 4, 255), (decide (at8 5 < 1 ∨ 200 < at8 5), 5, 255),
       (decide (7200 < at16 6), 6, 255), (decide (at16 8 < 1 ∨ 3600 < at16 8), 7, 255),
       (decide (2 < at8 10), 8, 255), (decide (15 < at8 11), 9, 255), (decide (15 < at8 13), 10, 255),
       (decide (2 < at8 14), 11, 255), (decide (15 < at8 15 ∨ 1000000000 ≤ at8 15 * f), 12, 255),
       (decide (at8 16 < 8 ∨ 16 < at8 16), 13, 255)]
    let jitter : List (Bool × Nat × Nat) :=
      [(decide (at8 18 < 8 ∨ 16 < at8 18), 14, 255), (decide (at16 19 = 0), 15, 255),
       (decide (at32 21 = 0 ∨ 1000000 < at32 21), 16, 255)]
    let band := fun i : Nat =>
      let a := o + 5 + 4 * i
      [(invalid (at8 a), 21, i), (decide (at8 (a + 1) < at8 a) || invalid (at8 (a + 1)), 22, i),
       (decide (signed (a + 2) < -1900 ∨ -600 < signed (a + 2)), 23, i),
       (decide (i ≠ 0 ∧ at8 a ≤ at8 (a - 3)), 24, i)]
    let bands : List (Bool × Nat × Nat) :=
      [(decide (14 < at8 o), 17, 255), (decide (at8 (o + 1) < at8 o ∨ 14 < at8 (o + 1)), 18, 255),
       (decide (100 < at8 (o + 2)), 19, 255), (decide (200 < at8 (o + 3)), 20, 255)] ++
      (List.range count).flatMap band
    let pull : List (Bool × Nat × Nat) :=
      [(decide (4094 < at16 u), 25, 255), (decide (at16 (u + 2) ≤ at16 u ∨ 4095 < at16 (u + 2)), 26, 255),
       (decide (at16 (u + 4) < 1 ∨ 1000 < at16 (u + 4)), 27, 255),
       (decide (at16 (u + 6) < 1 ∨ 2000 < at16 (u + 6)), 28, 255)]
    let checks := header ++ (if part 0 then jitter else []) ++ (if part 1 then bands else []) ++
      (if part 2 then pull else [])
    bodyError b =
      if 7 < at8 17 then some ⟨.range, [2, 255]⟩
      else if part 1 = true ∧ b.length ≤ o + 4 then some ⟨.frame, []⟩
      else if part 1 = true ∧ (count = 0 ∨ 8 < count) then some ⟨.range, [3, 255]⟩
      else if b.length ≠ u + (if part 2 then 8 else 0) then some ⟨.frame, []⟩
      else (checks.find? fun x => x.1).map fun x => ⟨.range, [BitVec.ofNat 8 x.2.1, BitVec.ofNat 8 x.2.2]⟩) ∧
  (∀ b : List Byte,
    let at8 := fun i => (b.getD i 0).toNat
    let at16 := fun i => at8 i + 256 * at8 (i + 1)
    let at32 := fun i => at16 i + 65536 * at16 (i + 2)
    let signed := fun i => if at16 i < 32768 then (at16 i : Int) else (at16 i : Int) - 65536
    let bit := fun i k => decide (at8 i / 2 ^ k % 2 = 1)
    let o := 18 + if bit 17 0 then 8 else 0
    let count := at8 (o + 4)
    let u := o + if bit 17 1 then 5 + 4 * count else 0
    maskFields b =
      { nominal := at32 1
        tolerance := at8 5
        warmUp := at16 6
        runLimit := at16 8
        policy := if at8 10 = 0 then .abort else if at8 10 = 1 then .repeatWork else .wait
        retryLimit := at8 11
        preemptible := bit 12 0
        failFast := bit 12 1
        copySet := Vector.ofFn fun i : StationId => bit 13 i.val
        edgeMode := if at8 14 = 0 then .rising else if at8 14 = 1 then .falling else .both
        glitchSetting := at8 15
        periodsExp := at8 16
        jitter := if bit 17 0 then some ⟨at8 18, at16 19, at32 21, at8 25⟩ else none
        band :=
          if bit 17 1 then
            some ⟨at8 o, at8 (o + 1), at8 (o + 2), at8 (o + 3), (List.range count).map fun i =>
              ⟨at8 (o + 5 + 4 * i), at8 (o + 6 + 4 * i), signed (o + 7 + 4 * i)⟩⟩
          else none
        pull := if bit 17 2 then some ⟨at16 u, at16 (u + 2), at16 (u + 4), at16 (u + 6)⟩ else none }) ∧
  ∀ (n : StationId) (b : List Byte) (s : State), s.takes n = true →
    (b.length < 18 → exec (.writeMask n b) s = .next (s.answerAt n ⟨.frame, []⟩)) ∧
    (18 ≤ b.length → 23 < field8 b 0 → exec (.writeMask n b) s = .next (s.answerAt n ⟨.range, [1, 255]⟩)) ∧
    ∀ m : MaskId, 18 ≤ b.length → field8 b 0 = m.val →
      (0 < (s.mask m).refCount → exec (.writeMask n b) s = .next (s.answerAt n ⟨.inUse, []⟩)) ∧
      ((s.mask m).refCount = 0 →
        (∀ a, bodyError b = some a → a.status ≠ .ok ∧ exec (.writeMask n b) s = .next (s.answerAt n a)) ∧
        (bodyError b = none →
          (maskFields b).valid = true ∧
          exec (.writeMask n b) s = .next
            ((s.modMask m fun e => { e with contents := some (maskFields b), version := e.version + 1 }).answerAt n
              ⟨.ok, [BitVec.ofNat 8 m.val, (s.mask m).version + 1]⟩)))

/-- R35, R36: ERASE MASK: RANGE, NO_SUCH for EMPTY, IN_USE, or the entry becomes EMPTY with its version raised by 1;
READ MASK answers state, version, count and body of a DEFINED mask, NO_SUCH with the version for an EMPTY one, and
changes nothing. Model's readings: answers described in words only, empty where none is described (log 5). -/
def Obligations.EraseAndReadMask : Prop :=
  ∀ (n : StationId) (b : Byte) (s : State), s.takes n = true →
    (23 < b.toNat →
      exec (.eraseMask n [b]) s = .next (s.answerAt n ⟨.range, [1, 255]⟩) ∧
      exec (.readMask n [b]) s = .next (s.answerAt n ⟨.range, [1, 255]⟩)) ∧
    ∀ m : MaskId, b.toNat = m.val →
      ((s.mask m).contents = none →
        exec (.eraseMask n [b]) s = .next (s.answerAt n ⟨.noSuch, []⟩) ∧
        exec (.readMask n [b]) s = .next (s.answerAt n ⟨.noSuch, [b, 0, (s.mask m).version, 0]⟩)) ∧
      ∀ c, (s.mask m).contents = some c →
        (0 < (s.mask m).refCount → exec (.eraseMask n [b]) s = .next (s.answerAt n ⟨.inUse, []⟩)) ∧
        ((s.mask m).refCount = 0 →
          exec (.eraseMask n [b]) s = .next
            ((s.modMask m fun e => { e with contents := none, version := e.version + 1 }).answerAt n
              ⟨.ok, [b, (s.mask m).version + 1]⟩)) ∧
        exec (.readMask n [b]) s = .next
          (s.answerAt n ⟨.ok, [b, 1, (s.mask m).version, BitVec.ofNat 8 (s.mask m).refCount] ++ maskBody c⟩)

/-- R36: the body READ MASK returns is the body that was written, byte for byte, with the unused bits of the options
byte 0: no field of the mask frame layout is dropped or altered. -/
def Obligations.MaskBodyReadsBackAsWritten : Prop :=
  ∀ b : List Byte, 18 ≤ b.length → bodyError b = none →
    maskBody (maskFields b) = (b.set 12 (BitVec.ofNat 8 ((byteAt b 12).toNat % 4))).drop 1

/-! ## Reference pairs and the link -/

/-- R83, R68, R105: TUNE PAIR: RANGE for the pair or the frequency, BUSY with attachments or in a transient state;
otherwise the tuning is accepted: frequency, range, tuning count, attempt count 0, calibrated flag clear, timers
stopped, fourteen transactions queued, the retune record none, and from FAULT a planner pass. R103 to R105, R87: a
planner pass takes the unserved frequencies, each once, in the order of their oldest wanting requests, the oldest
request being the one farthest behind the sequence counter; for each it chooses a free pair, one in OFF, else a READY
one whose frequency is not wanted, else the READY one whose frequency's oldest wanting request is the youngest and
younger, P0 when equal; the chosen pair is tuned and its retune record names the request; the pass ends when no
frequency remains. Model's readings: answers described in words only, empty where none is described (log 5); a filled
engine queue is granted its first transaction at once when the link is free (log 20). -/
def Obligations.TunePairStartsATuning : Prop :=
  (∀ (s : State) (taken : List Nat),
    let age := fun q : Request => (s.pool.nextSeq - q.seq).toNat
    let wants := fun (q : Request) (f : Nat) => q.band = true ∧ ∃ m, (s.mask q.mask).contents = some m ∧ m.nominal = f
    let open' := fun q : Request => ∃ f, wants q f ∧ f ∉ taken ∧
      ∀ p, (s.pair p).state = .off ∨ (s.pair p).state = .fault ∨ (s.pair p).tuned ≠ some f
    ((∀ q ∈ s.pool.requests, ¬ open' q) → s.nextUnserved taken = none) ∧
    ((∃ q ∈ s.pool.requests, open' q) → ∃ x, s.nextUnserved taken = some x) ∧
    (∀ x, s.nextUnserved taken = some x →
      x ∈ s.pool.requests ∧ open' x ∧ ∀ q ∈ s.pool.requests, open' q → age q ≤ age x) ∧
    (∀ f, (∀ x, s.oldestWanting f = some x →
        x ∈ s.pool.requests ∧ wants x f ∧ ∀ q ∈ s.pool.requests, wants q f → age q ≤ age x) ∧
      (s.oldestWanting f = none → ∀ q ∈ s.pool.requests, ¬ wants q f)) ∧
    (∀ x : Request,
      let free := fun (p : PairId) (z : PairState) =>
        decide ((s.pair p).attachments = 0) && decide ((s.pair p).state = z)
      let claim := fun p : PairId => (s.pair p).tuned.bind s.oldestWanting
      let idle := fun p : PairId => free p .ready && (s.pair p).tuned.isSome && (claim p).isNone
      let younger := fun p : PairId => free p .ready && (claim p).any fun y => decide (age y < age x)
      s.planChoice x =
        if free 0 .off then some 0 else if free 1 .off then some 1
        else if idle 0 then some 0 else if idle 1 then some 1
        else if younger 0 && younger 1 then
          (if ((claim 1).map age).getD 0 < ((claim 0).map age).getD 0 then some 1 else some 0)
        else if younger 0 then some 0 else if younger 1 then some 1 else none) ∧
    (∀ k, s.nextUnserved taken = none → plannerLoop (k + 1) taken s = s) ∧
    (∀ k x f, s.nextUnserved taken = some x → wants x f →
      (s.planChoice x = none → plannerLoop (k + 1) taken s = plannerLoop k (f :: taken) s) ∧
      (∀ p, s.planChoice x = some p → plannerLoop (k + 1) taken s = plannerLoop k (f :: taken)
        (acceptTuning { s with retune := s.retune.set p (some ⟨x.station, x.id⟩) } p f))) ∧
    ∀ k, plannerPass s = plannerLoop (s.pool.requests.length + k) [] s) ∧
  ∀ (n : StationId) (b f0 f1 f2 f3 : Byte) (s : State), s.takes n = true →
    let f := f0.toNat + 256 * f1.toNat + 65536 * (f2.toNat + 256 * f3.toNat)
    let c : Instr := .tunePair n [b, f0, f1, f2, f3]
    (1 < b.toNat ∨ f < 1000000 ∨ 200000000 < f → exec c s = .next (s.answerAt n ⟨.range, []⟩)) ∧
    ∀ p : PairId, b.toNat = p.val → 1000000 ≤ f → f ≤ 200000000 →
      let x := s.pair p
      (0 < x.attachments ∨ x.state ∉ [.off, .ready, .fault] →
        exec c s = .next (s.answerAt n ⟨.busy, [b, BitVec.ofNat 8 x.state.code, BitVec.ofNat 8 x.attachments]⟩)) ∧
      (x.attachments = 0 → x.state ∈ [.off, .ready, .fault] →
        let tuned : Pair :=
          { x with
            tuned := some f
            range := some (if f ≤ 12500000 then .range1 else if f ≤ 50000000 then .range2 else .range3)
            tunings := x.tunings + 1
            attempts := 0
            calibrated := false
            lockTimer := none
            settleTimer := none
            relockTimer := none
            calibrating := false
            state := .programming }
        let t := linkGrant (({ s with retune := s.retune.set p none } : State).modPair p fun _ =>
          { tuned with queue := attemptQueue p tuned })
        acceptTuning { s with retune := s.retune.set p none } p f = t ∧
        exec c s = .next ((if x.state = .fault then plannerPass t else t).answerAt n
          ⟨.ok, [b, 1, if f ≤ 12500000 then 1 else if f ≤ 50000000 then 2 else 3] ++
            bytes16 (x.tunings + 1).toNat⟩))

/-- R82: QUERY PAIR answers RANGE above 1, or the pair's 30 bytes, and changes nothing. Model's readings: answers
described in words only, empty where none is described (log 5). -/
def Obligations.QueryPairReportsThePair : Prop :=
  (∀ x : PairState, x.code = match x with
    | .off => 0 | .programming => 1 | .locking => 2 | .settling => 3 | .calibrating => 4 | .ready => 5 | .relocking => 6
    | .fault => 7) ∧
  (∀ x : PairFailure, x.code = match x with
    | .none => 0 | .readback => 1 | .lockTimeout => 2 | .relockTimeout => 3) ∧
  (∀ x : Option FreqRange, rangeByte x = match x with
    | none => 0 | some .range1 => 1 | some .range2 => 2 | some .range3 => 3) ∧
  ∀ (n : StationId) (b : Byte) (s : State), s.takes n = true →
    (1 < b.toNat → exec (.queryPair n [b]) s = .next (s.answerAt n ⟨.range, []⟩)) ∧
    ∀ p : PairId, b.toNat = p.val →
      let x := s.pair p
      let a : Answer := ⟨.ok,
        [b, BitVec.ofNat 8 x.state.code] ++ bytes32 (x.tuned.getD 0) ++
        [BitVec.ofNat 8 (rangeByte x.range), BitVec.ofNat 8 x.attempts,
         BitVec.ofNat 8 (bitsOf [x.firstLock, x.calibrated, s.lines.lock[2 * p.val]'(by have := p.isLt; omega),
           s.lines.lock[2 * p.val + 1]'(by have := p.isLt; omega)]),
         BitVec.ofNat 8 x.attachments, BitVec.ofNat 8 x.lastFailure.code, x.calibrations] ++ bytes16 x.tunings.toNat ++
        allDecades.flatMap fun d => bytes16 (pattern16 x.floors[d])⟩
      a.payload.length = 30 ∧ exec (.queryPair n [b]) s = .next (s.answerAt n a)

/-- R69, R70: P0's synthesizers have the link addresses 0 and 1, P1's 2 and 3; an attempt's queue is the six words of
A, the six of B, and the two reads, fourteen transactions; each image is control, frequency low and high, tuning
count, attempt count and check, and its six words sum to 0 modulo 65536. R71: a write sends its header with the link
address, the word index and the word, high byte first; a read-increment sends its header with the address and bit 7,
the index and the count, and the synthesizer sends that many of its words from the index upward, high byte first, an
absent one 0xFFFF for every word. -/
def Obligations.TuningImagesAndAttemptQueue : Prop :=
  (synthAddr 0 .a = 0 ∧ synthAddr 0 .b = 1 ∧ synthAddr 1 .a = 2 ∧ synthAddr 1 .b = 3) ∧
  (∀ (p : PairId) (x : Pair),
    (attemptQueue p x).length = 14 ∧
    (attemptQueue p x).take 12 =
      ((List.range 6).map fun i => LinkTransaction.write (synthAddr p .a) i ((x.image .a).getD i 0)) ++
      ((List.range 6).map fun i => LinkTransaction.write (synthAddr p .b) i ((x.image .b).getD i 0)) ∧
    (attemptQueue p x).drop 12 =
      [.readIncrement (synthAddr p .a) 0 6, .readIncrement (synthAddr p .b) 0 6] ∧
    ∀ y, (x.image y).length = 6 ∧
      (x.image y).take 5 =
        [BitVec.ofNat 16 (rangeByte x.range + 4 + (match y with | .a => 0 | .b => 8)),
         BitVec.ofNat 16 (x.tuned.getD 0 % 65536), BitVec.ofNat 16 (x.tuned.getD 0 / 65536), x.tunings,
         BitVec.ofNat 16 x.attempts] ∧
      (x.image y).foldl (· + ·) 0 = 0) ∧
  ∀ (a : SynthAddr) (i k : Nat) (w : Word16) (held : List Word16),
    (LinkTransaction.write a i w).sent =
      [BitVec.ofNat 8 a.val, BitVec.ofNat 8 i, w.extractLsb' 8 8, w.extractLsb' 0 8] ∧
    (LinkTransaction.write a i w).received held = [] ∧
    (LinkTransaction.readIncrement a i k).sent =
      [BitVec.ofNat 8 (128 + a.val), BitVec.ofNat 8 i, BitVec.ofNat 8 k] ∧
    (LinkTransaction.readIncrement a i k).received held = (List.range k).flatMap (fun j =>
      [(held.getD (i + j) 0xFFFF).extractLsb' 8 8, (held.getD (i + j) 0xFFFF).extractLsb' 0 8]) ∧
    (LinkTransaction.readIncrement a i k).received [] = List.replicate (2 * k) 0xFF

/-- R70, R72, R73, R74: at a completion the current transaction becomes none and the arbiter grants again, to the one
engine that offers or to the one the pointer names, which then names the other; words that agree with the image of the
synthesizer read lead on, to LOCKING after the last read; a mismatch fails the attempt with READBACK. Entering LOCKING
with both lock lines high settles at once, 200 ms after a first lock or a change of range and 100 ms otherwise; with a
line low the 20 ms lock timer starts. Model's readings: timers hold their ends and an expiry moves the time there (log
2); measured values are operands, and an averaged level is the modulus in dB (log 6). -/
def Obligations.LinkCompletionsAndGrants : Prop :=
  (∀ (s : State) (p : PairId),
    s.imageAt p (synthAddr p .a) = (s.pair p).image .a ∧ s.imageAt p (synthAddr p .b) = (s.pair p).image .b) ∧
  (∀ (u : State) (p : PairId),
    let locked := u.lines.lock[2 * p.val]'(by have := p.isLt; omega) = true ∧
      u.lines.lock[2 * p.val + 1]'(by have := p.isLt; omega) = true
    (locked → enterLocking u p = u.modPair p fun x =>
      { x with
        state := .settling
        lockTimer := none
        relockTimer := none
        settleTimer := some (u.now +
          if x.firstLock = true ∨ x.range ≠ x.lastReadyRange then 200 * 2000000000 else 100 * 2000000000) }) ∧
    (¬ locked → enterLocking u p = u.modPair p fun x =>
      { x with state := .locking, lockTimer := some (u.now + 20 * 2000000000) })) ∧
  ∀ (s : State) (p : PairId) (a : SynthAddr),
    let idle := s.modLink fun x => { x with current := none }
    (∀ i w, s.link.current = some (p, .write a i w) → exec .rmlWriteComplete s = .next (linkGrant idle)) ∧
    (∀ i k words, s.link.current = some (p, .readIncrement a i k) → (s.pair p).state = .programming →
      (words = s.imageAt p a → (s.pair p).queue ≠ [] →
        exec (.rmlReadIncrementComplete words) s = .next (linkGrant idle)) ∧
      (words = s.imageAt p a → (s.pair p).queue = [] →
        exec (.rmlReadIncrementComplete words) s = .next (linkGrant (enterLocking idle p))) ∧
      (words ≠ s.imageAt p a →
        exec (.rmlReadIncrementComplete words) s = .next (linkGrant (failAttempt idle p .readback)))) ∧
    (s.link.current = none →
      ((s.pair 0).queue = [] → (s.pair 1).queue = [] → linkGrant s = s) ∧
      (∀ t rest, (s.pair p).queue = t :: rest → (s.pair (1 - p)).queue = [] ∨ s.link.pointer = p →
        linkGrant s = (s.modPair p fun x => { x with queue := rest }).modLink fun _ => ⟨some (p, t), 1 - p⟩)) ∧
    (s.link.current ≠ none → linkGrant s = s)

/-- R73, R74, R79, R80: the lock timer's expiry in LOCKING and the relock timer's in RELOCKING fail the attempt: its
failure is recorded, the attempt count rises by 1, the calibrated flag is cleared; the third takes the pair to FAULT
with PAIR set at every port, the runs attached to it aborted PAIR_FAULT and a planner pass; any other fills the queue
again. Model's readings: timers hold their ends and an expiry moves the time there (log 2); lanes are served in
ascending order (log 7); the order within one event (log 8); a filled engine queue is granted its first transaction at
once when the link is free (log 20). -/
def Obligations.FailedAttemptsReprogramOrFault : Prop :=
  (∀ (p : PairId) (x : Option RunContext), attachedTo p x = true ↔ ∃ c, x = some c ∧ c.pair = some p) ∧
  ∀ (s : State) (p : PairId),
    (∀ d, (s.pair p).state = .locking → (s.pair p).lockTimer = some d →
      exec (.lockTimerExpiry p) s = .next (failAttempt { s with now := max s.now d } p .lockTimeout)) ∧
    (∀ d, (s.pair p).state = .relocking → (s.pair p).relockTimer = some d →
      exec (.relockTimerExpiry p) s = .next (failAttempt { s with now := max s.now d } p .relockTimeout)) ∧
    ∀ why,
      let x : Pair :=
        { s.pair p with
          lastFailure := why
          attempts := (s.pair p).attempts + 1
          calibrated := false
          lockTimer := none
          settleTimer := none
          relockTimer := none
          calibrating := false
          queue := [] }
      ((s.pair p).attempts < 2 →
        failAttempt s p why = linkGrant (s.modPair p fun _ =>
          { x with state := .programming, queue := attemptQueue p x })) ∧
      ((s.pair p).attempts = 2 →
        failAttempt s p why = plannerPass (allLanes.foldl (abortWhere (attachedTo p) .pairFault)
          ((s.modPair p fun _ => { x with state := .fault }).latchAll fun l => { l with pair := true })))

/-- R74, R78, R79: the rise that makes the second line high settles a pair in LOCKING or RELOCKING; a fall takes a
pair in SETTLING, CALIBRATING or READY to RELOCKING with a 20 ms timer, and from READY reaches its lanes; in any other
state a change of a line changes its level alone. R119: the loss of lock makes a lane whose active run is attached to
the pair discard a SETTLE or counted segment, with UNLOCK, and come to start a SETTLE; one HELD with a pending SETTLE
or COUNTED SEGMENT adds PAIR and makes its pending start SETTLE; any other lane takes nothing. Model's readings:
timers hold their ends and an expiry moves the time there (log 2); lanes are served in ascending order (log 7). -/
def Obligations.LockLinesSettleAndRelock : Prop :=
  (∀ (s : State) (p : PairId), s.bothLocked p = true ↔
    s.lines.lock[synthAddr p .a] = true ∧ s.lines.lock[synthAddr p .b] = true) ∧
  (∀ (u : State) (l : LaneId) (p : PairId),
    ((∀ c, (u.lane l).active = some c → c.pair ≠ some p) → unlockAt p u l = u) ∧
    ∀ c, (u.lane l).active = some c → c.pair = some p →
      ((u.lane l).state ∈ [.correlate, .settle] →
        unlockAt p u l = comeToStart (u.modLane l fun x =>
          { x with
            holdQuiet := false
            holdPair := false
            pending := .none
            interval := none
            etu := x.etu.stop
            active := some { c with disturbances := { c.disturbances with unlock := true } } }) l .settle) ∧
      ((u.lane l).state = .held → (u.lane l).pending ∈ [.settle, .countedSegment] →
        unlockAt p u l = u.modLane l fun x => { x with holdPair := true, pending := .settle }) ∧
      ((u.lane l).state = .held → (u.lane l).pending ∉ [.settle, .countedSegment] → unlockAt p u l = u) ∧
      ((u.lane l).state ∈ [.idle, .edge] → unlockAt p u l = u)) ∧
  ∀ (s : State) (p : PairId) (y : Synth), s.inReset = false →
    let a := synthAddr p y
    let up := s.modLines fun x => { x with lock := x.lock.set a true }
    let down := s.modLines fun x => { x with lock := x.lock.set a false }
    let relock := down.modPair p fun x =>
      { x with
        state := .relocking
        settleTimer := none
        calibrating := false
        relockTimer := some (s.now + 20 * 2000000000) }
    let settle := fun w => up.modPair p fun x =>
      { x with state := .settling, lockTimer := none, relockTimer := none, settleTimer := some (s.now + w) }
    (s.lines.lock[a] = false →
      (up.bothLocked p = false → exec (.lockRise a) s = .next up) ∧
      (up.bothLocked p = true →
        ((s.pair p).state = .locking →
          exec (.lockRise a) s = .next (settle (
            if (s.pair p).firstLock = true ∨ (s.pair p).range ≠ (s.pair p).lastReadyRange then 200 * 2000000000
            else 100 * 2000000000))) ∧
        ((s.pair p).state = .relocking → exec (.lockRise a) s = .next (settle (100 * 2000000000))) ∧
        ((s.pair p).state ∉ [.locking, .relocking] → exec (.lockRise a) s = .next up))) ∧
    (s.lines.lock[a] = true →
      ((s.pair p).state = .ready → exec (.lockFall a) s = .next (allLanes.foldl (unlockAt p) relock)) ∧
      ((s.pair p).state ∈ [.settling, .calibrating] → exec (.lockFall a) s = .next relock) ∧
      ((s.pair p).state ∉ [.settling, .calibrating, .ready] → exec (.lockFall a) s = .next down))

/-- R74, R75, R76, R77: the settle timer's expiry leads to CALIBRATING with the calibrated flag clear and to READY
with it set; a calibration's completion writes the whole floor table, rounded and held, -1000 for invalid decades,
raises the calibration count and leads to READY; READY clears the attempt count and the first-lock flag, keeps the
range as the last ready one, and is offered to the lanes, then the pool, then, for a pair that entered with no run
attached, the planner. R109: a HELD lane whose active run is attached to the pair removes PAIR, and starts its pending
work when no hold is left; any other lane takes nothing. Model's readings: timers hold their ends and an expiry moves
the time there (log 2); measured values are operands, and an averaged level is the modulus in dB (log 6); lanes are
served in ascending order (log 7). -/
def Obligations.SettlingAndCalibrationLeadToReady : Prop :=
  (∀ (u : State) (l : LaneId) (p : PairId),
    ((u.lane l).state ≠ .held ∨ (∀ c, (u.lane l).active = some c → c.pair ≠ some p) → readyAt p u l = u) ∧
    ∀ c, (u.lane l).state = .held → (u.lane l).active = some c → c.pair = some p →
      ((u.lane l).holdQuiet = true → readyAt p u l = u.modLane l fun x => { x with holdPair := false }) ∧
      ((u.lane l).holdQuiet = false → readyAt p u l = comeToStart u l (u.lane l).pending)) ∧
  ∀ (s : State) (p : PairId),
    (∀ d, (s.pair p).state = .settling → (s.pair p).settleTimer = some d →
      ((s.pair p).calibrated = true →
        exec (.settleTimerExpiry p) s = .next (enterReady { s with now := max s.now d } p)) ∧
      ((s.pair p).calibrated = false →
        exec (.settleTimerExpiry p) s = .next (({ s with now := max s.now d } : State).modPair p fun x =>
          { x with state := .calibrating, settleTimer := none, calibrating := true }))) ∧
    (∀ v : Vector Level 8, (s.pair p).state = .calibrating →
      exec (.calibrationCompletion p v) s = .next (enterReady (s.modPair p fun x =>
        { x with
          floors := Vector.ofFn fun d =>
            if 4 * 10 ^ d.val < x.tuned.getD 0 then holdInt (-1900) (-1000) (roundDiv v[d].num v[d].den) else -1000
          calibrated := true
          calibrations := x.calibrations + 1 }) p)) ∧
    let t := arbitrate (allLanes.foldl (readyAt p) (s.modPair p fun x =>
      { x with
        state := .ready
        attempts := 0
        firstLock := false
        lastReadyRange := x.range
        lockTimer := none
        settleTimer := none
        relockTimer := none
        calibrating := false }))
    enterReady s p = if (s.pair p).attachments = 0 then plannerPass t else t

/-! ## Requests -/

/-- R89, R90: SUBMIT takes its checks in order, RANGE, NOT_OWNER, ABSENT, STALE with the present load generation, BUSY
with the engagement and the socket's request, NO_SUCH or RANGE for the mask, FULL; an accepted request takes the next
free id and the sequence number, joins the pool, raises the mask's count, queues its socket, lets the planner pass if
it is a band request, and is offered to the arbiter. R88: the next free id is the first, from the station's counter on
and from 65534 to 0, that no live request of the station has, in the pool, a lane or a slot; under the laws of the
work it is at most sixteen past the counter. Model's readings: answers described in words only, empty where none is
described (log 5). -/
def Obligations.SubmitChecksThenQueues : Prop :=
  (∀ (s : State) (r : RequestRef), s.live r = true ↔
    (∃ q ∈ s.pool.requests, (⟨q.station, q.id⟩ : RequestRef) = r) ∨
    ∃ l c, ((s.lane l).active = some c ∨ (s.lane l).slot = some c) ∧
      (⟨c.request.station, c.request.id⟩ : RequestRef) = r) ∧
  (∀ (s : State) (n : StationId) (due : RequestId),
    let later : RequestId → RequestId := fun i => if i = 65534 then 0 else i + 1
    let first := fun j : Nat => s.live ⟨n, later^[j] due⟩ = false ∧ ∀ i, i < j → s.live ⟨n, later^[i] due⟩ = true
    (∀ j, j ≤ 16 → first j → nextFreeId s n 17 due = later^[j] due) ∧
    (s.workLaw → ∃ j, j ≤ 16 ∧ first j)) ∧
  ∀ (n : StationId) (b kd g0 g1 mk : Byte) (s : State), s.takes n = true →
    let c : Instr := .submit n [b, kd, g0, g1, mk]
    (15 < b.toNat ∨ 2 < kd.toNat → exec c s = .next (s.answerAt n ⟨.range, []⟩)) ∧
    ∀ (k : SocketId) (kind : Kind), b.toNat = k.val → kd.toNat = kind.code →
      let x := s.socket k
      let g := g0.toNat + 256 * g1.toNat
      (x.owner ≠ some n → exec c s = .next (s.answerAt n ⟨.notOwner, []⟩)) ∧
      (x.owner = some n → x.presence = .absent → exec c s = .next (s.answerAt n ⟨.absent, []⟩)) ∧
      (x.owner = some n → x.presence = .present →
        (g ≠ x.loadGen.toNat → exec c s = .next (s.answerAt n ⟨.stale, bytes16 x.loadGen.toNat⟩)) ∧
        (∀ r, g = x.loadGen.toNat → x.engagement ≠ .idle → x.request = some r →
          exec c s = .next (s.answerAt n
            ⟨.busy, [BitVec.ofNat 8 x.engagement.code, BitVec.ofNat 8 r.station.val] ++ bytes16 r.id.toNat⟩)) ∧
        (g = x.loadGen.toNat → x.engagement = .idle →
          (23 < mk.toNat → exec c s = .next (s.answerAt n ⟨.noSuch, []⟩)) ∧
          ∀ m : MaskId, mk.toNat = m.val →
            ((s.mask m).contents = none → exec c s = .next (s.answerAt n ⟨.noSuch, []⟩)) ∧
            ∀ d, (s.mask m).contents = some d →
              let fits := match kind with
                | .measure => d.jitter.isSome || d.band.isSome
                | .frequencyCheck => true
                | .pullCheck => d.pull.isSome
              let bands := match kind, d.band with
                | .measure, some y => y.bands.length
                | _, _ => 0
              let q : Request :=
                ⟨nextFreeId s n 17 (s.port n).nextId, n, kind, k, x.loadGen, m, s.pool.nextSeq,
                 decide (kind = .measure) && d.band.isSome, 12 + 2 * bands⟩
              let t : State :=
                { s with
                  pool := { s.pool with requests := s.pool.requests ++ [q], nextSeq := s.pool.nextSeq + 1 }
                  masks := updateAt s.masks m fun e => { e with refCount := e.refCount + 1 }
                  sockets := updateAt s.sockets k fun y => { y with engagement := .queued, request := some ⟨n, q.id⟩ }
                  ports := updateAt s.ports n fun p => { p with nextId := if q.id = 65534 then 0 else q.id + 1 } }
              (fits = false → exec c s = .next (s.answerAt n ⟨.range, []⟩)) ∧
              (fits = true →
                (32 ≤ s.pool.requests.length ∨ 16 ≤ (s.pool.ofStation n).length →
                  exec c s = .next (s.answerAt n ⟨.full, []⟩)) ∧
                (s.pool.requests.length < 32 → (s.pool.ofStation n).length < 16 →
                  exec c s = .next ((arbitrate (if q.band then plannerPass t else t)).answerAt n
                    ⟨.ok, bytes16 q.id.toNat ++ bytes32 q.seq.toNat⟩)))))

/-- R92: CANCEL of no live request of the caller is NO_SUCH; one in the pool leaves it, one in a lane or a suspend
slot is aborted CANCELLED; the answer carries the id and the place 0, 1 or 2. Model's readings: answers described in
words only, empty where none is described (log 5). -/
def Obligations.CancelEndsTheCallersRequest : Prop :=
  (∀ (s : State) (r : RequestRef),
    (∀ q, s.queued r = some q → q ∈ s.pool.requests ∧ q.station = r.station ∧ q.id = r.id) ∧
    (s.queued r = none → ∀ q ∈ s.pool.requests, ¬ (q.station = r.station ∧ q.id = r.id)) ∧
    (∀ l, s.laneRunning r = some l → ∃ c, (s.lane l).active = some c ∧ c.request.station = r.station ∧
      c.request.id = r.id) ∧
    (s.laneRunning r = none → ∀ l c, (s.lane l).active = some c →
      ¬ (c.request.station = r.station ∧ c.request.id = r.id)) ∧
    (∀ l, s.laneHolding r = some l → ∃ c, (s.lane l).slot = some c ∧ c.request.station = r.station ∧
      c.request.id = r.id) ∧
    (s.laneHolding r = none → ∀ l c, (s.lane l).slot = some c →
      ¬ (c.request.station = r.station ∧ c.request.id = r.id))) ∧
  ∀ (n : StationId) (lo hi : Byte) (s : State), s.takes n = true →
    let r : RequestRef := ⟨n, hi ++ lo⟩
    let c : Instr := .cancel n [lo, hi]
    (s.live r = false → exec c s = .next (s.answerAt n ⟨.noSuch, []⟩)) ∧
    (∀ q, s.queued r = some q → exec c s = .next ((arbitrate (leavePool s q)).answerAt n ⟨.ok, [lo, hi, 0]⟩)) ∧
    (∀ l, s.queued r = none → s.laneRunning r = some l →
      exec c s = .next ((endActive s l .aborted (some .cancelled)).answerAt n ⟨.ok, [lo, hi, 1]⟩)) ∧
    (∀ l, s.queued r = none → s.laneRunning r = none → s.laneHolding r = some l →
      exec c s = .next ((abortSlot s l .cancelled).answerAt n ⟨.ok, [lo, hi, 2]⟩))

/-- R96, R131: QUERY REQUEST answers RANGE for a station above 3, NO_SUCH for a request that is not live, and
otherwise 18 bytes; QUERY LANE answers RANGE above 3 and otherwise the lane's 40 bytes: its number, state, hold set,
pending start and connected socket, the active run's figures, the suspended run's and the mark, with the none values
of what is absent; neither changes anything else. Of a queued band request byte 15 names the pair that serves its
frequency, a READY one before others, of two READY ones the one with fewer attachments, P0 when they are alike, and P0
when both serve and neither is READY; byte 17 counts the older requests of its class in the pool. Model's readings:
answers described in words only, empty where none is described (log 5); run times are held at the run time limit (log
16); bytes 32 to 36 of QUERY LANE are 0 for an empty suspend slot (log 24). -/
def Obligations.QueriesOfRequestsAndLanes : Prop :=
  (∀ k : Kind, k.code = match k with | .measure => 0 | .frequencyCheck => 1 | .pullCheck => 2) ∧
  (∀ (s : State) (f : Nat),
    let ready := fun p : PairId => (s.pair p).state = .ready ∧ (s.pair p).tuned = some f
    let serves := fun p : PairId => (s.pair p).state ≠ .off ∧ (s.pair p).state ≠ .fault ∧ (s.pair p).tuned = some f
    (∀ p, s.servingPair f = some p → serves p ∧
      ((∃ j, ready j) → ready p ∧ ∀ j, ready j → (s.pair p).attachments < (s.pair j).attachments ∨
        ((s.pair p).attachments = (s.pair j).attachments ∧ p ≤ j)) ∧
      ((∀ j, ¬ ready j) → ∀ j, serves j → p ≤ j)) ∧
    (s.servingPair f = none → ∀ p, ¬ serves p)) ∧
  (∀ (s : State) (q : Request),
    let age := fun x : Request => (s.pool.nextSeq - x.seq).toNat
    s.olderThan q = s.pool.requests.countP fun x =>
      decide (x.kind = .measure ↔ q.kind = .measure) && decide (age q < age x)) ∧
  ∀ (n : StationId) (b lo hi : Byte) (s : State), s.takes n = true →
    (3 < b.toNat →
      exec (.queryRequest n [b, lo, hi]) s = .next (s.answerAt n ⟨.range, []⟩) ∧
      exec (.queryLane n [b]) s = .next (s.answerAt n ⟨.range, []⟩)) ∧
    ∀ j : Fin 4, b.toNat = j.val →
      (exec (.queryLane n [b]) s = .next (s.answerAt n ⟨.ok, lanePayload s j⟩) ∧ (lanePayload s j).length = 40) ∧
      (let x := s.lane j
       let byte := fun i : Nat => BitVec.ofNat 8 i
       let seconds := fun c : RunContext =>
         min (c.mask.runLimit * 2000000000000) (c.elapsed + match c.since with | none => 0 | some t => s.now - t) /
           2000000000000
       lanePayload s j =
         [b, byte (match x.state with | .idle => 0 | .edge => 1 | .settle => 2 | .correlate => 3 | .held => 4),
          byte (x.holdQuiet.toNat + 2 * x.holdPair.toNat),
          byte (match x.pending with | .none => 0 | .edgeStage => 1 | .settle => 2 | .countedSegment => 3),
          byte (match x.connected with | none => 255 | some k => k.val)] ++
         (match x.active with
          | none => [255, 255, 255, 255, 255, 0, 0, 0, 0, 0, 0, 255, 0, 0, 0] ++ List.replicate 8 255
          | some c =>
            [byte c.request.station.val] ++ bytes16 c.request.id.toNat ++
            [byte (match c.request.kind with | .measure => 0 | .frequencyCheck => 1 | .pullCheck => 2),
             byte (match c.stage with
               | .frequency => 0 | .jitter => 1 | .correlation => 2 | .pullLow => 3 | .pullHigh => 4)] ++
            bytes16 c.counted ++ [byte c.rounds, byte c.retries] ++ bytes16 (seconds c) ++
            [byte (match c.pair with | none => 255 | some p => p.val),
             byte (bitsOf [c.fails.band, c.fails.jitterRms, c.fails.jitterPp, c.fails.glitch, c.fails.pull]),
             byte (bitsOf [c.disturbances.motion, c.disturbances.retried, c.disturbances.waited,
               c.disturbances.unlock, c.disturbances.preempted]),
             byte c.bands.length] ++
            (List.range 8).map fun i => match c.bands[i]? with
              | none => 255
              | some d => byte (match d.state with
                | .undecided => 0 | .pass => 1 | .fail => 2 | .marginal => 3 | .unreached => 4)) ++
         (match x.slot with
          | none => [255, 255, 255, 255, 0, 0, 0, 0, 0]
          | some c => [byte c.request.station.val] ++ bytes16 c.request.id.toNat ++ [byte c.request.socket.val] ++
            bytes16 c.counted ++ [byte c.rounds] ++ bytes16 (seconds c)) ++
         (match x.mark with
          | none => [255, 255, 255]
          | some r => [byte r.station.val] ++ bytes16 r.id.toNat)) ∧
      (s.live ⟨j, hi ++ lo⟩ = false →
        exec (.queryRequest n [b, lo, hi]) s = .next (s.answerAt n ⟨.noSuch, []⟩)) ∧
      (∀ q, s.queued ⟨j, hi ++ lo⟩ = some q →
        let pair := if q.band then (s.maskFor q).bind fun m => s.servingPair m.nominal else none
        let a : Answer := ⟨.ok,
          [b, lo, hi, 0, BitVec.ofNat 8 q.kind.code, BitVec.ofNat 8 q.socket.val] ++ bytes16 q.loadGen.toNat ++
          [BitVec.ofNat 8 q.mask.val] ++ bytes32 q.seq.toNat ++
          [BitVec.ofNat 8 (s.waitReasons q),
           BitVec.ofNat 8 (numberOr 255 (allLanes.find? fun l => decide ((s.lane l).mark = some q.ref))),
           BitVec.ofNat 8 (pairCode 255 pair),
           if (∃ p, pair = some p ∧ s.retune[p] = some q.ref) then 1 else 0,
           BitVec.ofNat 8 (s.olderThan q)]⟩
        a.payload.length = 18 ∧ exec (.queryRequest n [b, lo, hi]) s = .next (s.answerAt n a)) ∧
      (∀ l c, s.queued ⟨j, hi ++ lo⟩ = none →
        (s.laneRunning ⟨j, hi ++ lo⟩ = some l ∧ (s.lane l).active = some c ∨
          s.laneRunning ⟨j, hi ++ lo⟩ = none ∧ s.laneHolding ⟨j, hi ++ lo⟩ = some l ∧ (s.lane l).slot = some c) →
        let q := c.request
        let a : Answer := ⟨.ok,
          [b, lo, hi, if (s.laneRunning ⟨j, hi ++ lo⟩).isSome then 1 else 2, BitVec.ofNat 8 q.kind.code,
           BitVec.ofNat 8 q.socket.val] ++ bytes16 q.loadGen.toNat ++ [BitVec.ofNat 8 q.mask.val] ++
          bytes32 q.seq.toNat ++
          [0, BitVec.ofNat 8 l.val, BitVec.ofNat 8 (pairCode 255 c.pair),
           if (∃ p, c.pair = some p ∧ s.retune[p] = some q.ref) then 1 else 0, 0]⟩
        a.payload.length = 18 ∧ exec (.queryRequest n [b, lo, hi]) s = .next (s.answerAt n a))

/-! ## The arbiter and dispatch -/

/-- R97: after the arbiter's work no request is eligible beside a usable lane. R94, R95: the five conditions of
eligibility, and the six wait reasons. R98: a grant goes to an eligible EXPRESS request if there is one, then to the
first station in turn after the last-granted one, then to its oldest request, into the lowest-numbered usable lane.
R101, R102: marks whose request is not in the pool or not eligible are withdrawn, every mark before grants; then the
next eligible EXPRESS request without a mark, in grant order, marks the lowest-numbered markable lane, until requests
or lanes run out. R99: dispatch moves a granted request out of the pool into its lane, with its reservations, its
socket connected and RUNNING, its pair attached, its run context created and its first edge stage coming to start; the
mask's reference count is unchanged. R99 step 4: a band request is attached to a READY pair at its nominal frequency,
of two the one with fewer attachments, P0 when they are alike. R148 to R150, R161: the owner's ring and the copy
stations' take a reservation where there is room for it, the other copy stations are skipped; the entry is reserved,
ORIGINAL for the owner and COPY elsewhere, of the record's size, with the descriptor of the request, the mask and its
version, and the pair. R1, R3: the stage plan and the starting values of the run context. Model's readings: marks are
placed in grant order, station by station (log 9); a run copies its mask at dispatch (log 11). -/
def Obligations.ArbiterLeavesNoEligibleRequestBesideAUsableLane : Prop :=
  (∀ (s : State) (f : Nat),
    let ready := fun p : PairId => (s.pair p).state = .ready ∧ (s.pair p).tuned = some f
    (∀ p, s.attachChoice f = some p → ready p ∧ ∀ j, ready j → (s.pair p).attachments < (s.pair j).attachments ∨
      ((s.pair p).attachments = (s.pair j).attachments ∧ p ≤ j)) ∧
    (s.attachChoice f = none → ∀ p, ¬ ready p)) ∧
  (∀ r : Ring, r.used = (r.entries.map fun e => e.size).sum) ∧
  (∀ (s : State) (q : Request) (m : Mask) (pair : Option PairId) (n : StationId),
    ((reservedIn s q m)[n] = true ↔
      (n = q.station ∨ m.copySet[n] = true) ∧ (s.ring n).used + q.size ≤ 512) ∧
    ((skippedBy s q m)[n] = true ↔
      m.copySet[n] = true ∧ n ≠ q.station ∧ 512 < (s.ring n).used + q.size) ∧
    entryFor s q m pair n =
      { run := ⟨q.station, q.id⟩
        role := if n = q.station then .original else .copy
        size := q.size
        descriptor :=
          { kind := q.kind
            owner := q.station
            id := q.id
            socket := q.socket
            loadGen := q.loadGen
            mask := q.mask
            version := (s.mask q.mask).version
            pair := pair
            bands := match q.band, m.band with
              | true, some d => d.bands
              | _, _ => [] }
        record := none }) ∧
  (∀ s : State, (arbitrate s).usableLane = none ∨
    ∀ q ∈ (arbitrate s).pool.requests, (arbitrate s).eligible q = false) ∧
  (∀ (s : State) (q : Request) (m : Mask), (s.mask q.mask).contents = some m →
    let k := s.socket q.socket
    let ready := ∃ p, (s.pair p).state = .ready ∧ (s.pair p).tuned = some m.nominal
    let served := ∃ p, (s.pair p).state ≠ .off ∧ (s.pair p).state ≠ .fault ∧ (s.pair p).tuned = some m.nominal
    let room := (s.ring q.station).used + q.size ≤ 512
    let usable := ∃ l, (s.lane l).state = .idle ∧ (s.lane l).slot = none
    let four := k.supply = .on ∧ m.warmUp ≤ k.poweredFor ∧ (q.band = true → ready) ∧ room
    let reason := fun i => bitOf (s.waitReasons q) i = true
    (s.eligible q = true ↔ four ∧ (q.kind = .measure → usable)) ∧
    (reason 0 ↔ k.supply ≠ .on) ∧ (reason 1 ↔ k.supply = .on ∧ k.poweredFor < m.warmUp) ∧
    (reason 2 ↔ q.band = true ∧ ¬ served) ∧ (reason 3 ↔ q.band = true ∧ served ∧ ¬ ready) ∧ (reason 4 ↔ ¬ room) ∧
    (reason 5 ↔ four ∧ ¬ usable) ∧ s.waitReasons q < 64) ∧
  (∀ s : State,
    let age := fun q : Request => (s.pool.nextSeq - q.seq).toNat
    let turn := fun n : StationId => (n - s.pool.lastGranted - 1).val
    let first := fun (may : Request → Prop) (q : Request) => q ∈ s.pool.requests ∧ may q ∧
      ∀ y ∈ s.pool.requests, may y → turn q.station < turn y.station ∨ (y.station = q.station ∧ age y ≤ age q)
    let express := fun q : Request => s.eligible q = true ∧ q.kind ≠ .measure
    let standard := fun q : Request => s.eligible q = true ∧ q.kind = .measure
    let unmarked := fun q : Request => express q ∧ ∀ l, (s.lane l).mark ≠ some q.ref
    let usable := fun l : LaneId => (s.lane l).state = .idle ∧ (s.lane l).slot = none
    let markable := fun l : LaneId => (s.lane l).state = .correlate ∧ (s.lane l).slot = none ∧
      (s.lane l).mark = none ∧ ∃ c, (s.lane l).active = some c ∧ c.request.kind = .measure ∧ c.mask.preemptible = true
    (∀ q, s.grantChoice = some q →
      first express q ∨ ((∀ y ∈ s.pool.requests, ¬ express y) ∧ first standard q)) ∧
    (s.grantChoice = none → ∀ y ∈ s.pool.requests, s.eligible y = false) ∧
    (∀ l, s.usableLane = some l → usable l ∧ ∀ j, j < l → ¬ usable j) ∧
    (s.usableLane = none → ∀ l, ¬ usable l) ∧
    (∀ l q m, s.usableLane = some l → s.grantChoice = some q → (s.mask q.mask).contents = some m →
      grantOne s = some (dispatch s q m l)) ∧
    (s.usableLane = none ∨ s.grantChoice = none → grantOne s = none) ∧
    (∀ t, markOne s = some t → ∃ l q, markable l ∧ (∀ j, j < l → ¬ markable j) ∧ first unmarked q ∧
      t = s.modLane l fun x => { x with mark := some ⟨q.station, q.id⟩ }) ∧
    (markOne s = none → (∀ l, ¬ markable l) ∨ ∀ y ∈ s.pool.requests, ¬ unmarked y) ∧
    (∀ l, (s.lane l).mark = none → (withdrawStale s).lane l = s.lane l) ∧
    (∀ l r, (s.lane l).mark = some r →
      (withdrawStale s).lane l =
        if (s.queued r).any s.eligible then s.lane l else { s.lane l with mark := none }) ∧
    (∀ l, (withdrawAll s).lane l = { s.lane l with mark := none }) ∧
    (let t := withdrawStale s
     arbitrate s = markLoop 4
      (if t.usableLane.isSome && t.grantChoice.isSome then grantLoop 4 (withdrawAll t) else t)) ∧
    (∀ k, grantLoop (k + 1) s = match grantOne s with | none => s | some t => grantLoop k t) ∧
    (∀ k, markLoop (k + 1) s = match markOne s with | none => s | some t => markLoop k t) ∧
    (∀ l r, ((arbitrate s).lane l).mark = some r →
      ∃ q ∈ (arbitrate s).pool.requests, q.ref = r ∧ (arbitrate s).eligible q = true) ∧
    ((∀ l, ((arbitrate s).lane l).markable = false) ∨
      ∀ q ∈ (arbitrate s).pool.requests, (arbitrate s).eligible q = true → q.kind ≠ .measure →
        ∃ l, ((arbitrate s).lane l).mark = some q.ref)) ∧
  (∀ (q : Request) (m : Mask) (pair : Option PairId) (refs skipped : StationSet) (now : Nat),
    RunContext.create q m pair refs skipped now =
      { request := q
        mask := m
        plan := match q.kind with
          | .measure => [.frequency] ++ (if m.jitter.isSome then [.jitter] else []) ++
              (if m.band.isSome then [.correlation] else [])
          | .frequencyCheck => [.frequency]
          | .pullCheck => [.pullLow, .pullHigh]
        stage := if q.kind = .pullCheck then .pullLow else .frequency
        counted := 0
        rounds := 0
        bands := match q.kind, m.band with
          | .measure, some d => d.bands.map fun b => ⟨b, .undecided, none, none⟩
          | _, _ => []
        spectrum := Vector.replicate 8 ⟨0, 0⟩
        frequency := none
        jitter := none
        glitches := 0
        duty := none
        pullLow := none
        pull := none
        retries := 0
        fails := ⟨false, false, false, false, false⟩
        disturbances := ⟨false, false, false, false, false⟩
        cause := none
        ending := none
        elapsed := 0
        since := some now
        pair := pair
        refs := refs
        skipped := skipped }) ∧
  ∀ (s : State) (q : Request) (m : Mask) (l : LaneId),
    let pair := if q.band then s.attachChoice m.nominal else none
    let c := RunContext.create q m pair (reservedIn s q m) (skippedBy s q m) s.now
    dispatch s q m l = comeToStart
      { s with
        pool :=
          { s.pool with
            requests := s.pool.requests.filter fun x => !decide (x.ref = q.ref)
            lastGranted := q.station }
        rings := Vector.ofFn fun n =>
          if (n = q.station ∨ m.copySet[n] = true) ∧ (s.ring n).used + q.size ≤ 512 then
            ⟨(s.ring n).entries ++ [entryFor s q m pair n]⟩
          else s.ring n
        sockets := updateAt s.sockets q.socket fun k => { k with engagement := .running, lane := some l }
        pairs := match pair with
          | none => s.pairs
          | some p => updateAt s.pairs p fun x => { x with attachments := x.attachments + 1 }
        lanes := updateAt s.lanes l fun x => { x with active := some c, connected := some q.socket, mark := none } }
      l .edgeStage

/-! ## Lanes -/

/-- R109, R111, R10: a lane with a run that comes to start works at once when the line is quiet and, for a segment,
its pair is READY: SETTLE and CORRELATE run for the segment length, an edge stage starts the unit or drives the EFC
code and waits; otherwise it is HELD for the reasons that fail, and a counted segment that waits for the pair becomes
a SETTLE. R133, R111, R8: a started unit is in OPENING with the stage's setting, the mask's edge mode, its glitch
filter width of 250 ps a step and the period count 2 to the JITTER exponent in JITTER and to the mask's in the other
stages, with the input's level as its filtered level, nothing counted and 50 µs to its timeout; PULL LOW drives the
low code and PULL HIGH the high one, with the EFC settle time. Model's readings: timers hold their ends and an expiry
moves the time there (log 2); the pending start is none once the work has started (log 25). -/
def Obligations.ComingToStartWorksOrHolds : Prop :=
  (∀ (g : EtuSetting) (input : Bool) (now : Nat), Etu.start g input now =
    { state := .opening
      setting := some g
      filtered := input
      qualification := none
      history := []
      periods := 0
      stats := ⟨0, 0, none, none, 0⟩
      glitches := 0
      timeout := some (now + 50 * 2000000) }) ∧
  (∀ (s : State) (l : LaneId) (c : RunContext), startEtu s l c = s.modLane l fun x =>
    { x with
      etu := Etu.start c.etuSetting
        (match (s.lane l).connected with | none => false | some k => s.lines.signal[k]) s.now }) ∧
  (∀ c : RunContext,
    let setting := fun periods : Nat =>
      (⟨c.mask.edgeMode, c.mask.glitchSetting * 500, periods, c.stage⟩ : EtuSetting)
    (c.stage ≠ .jitter → c.etuSetting = setting (2 ^ c.mask.periodsExp)) ∧
    (∀ j, c.stage = .jitter → c.mask.jitter = some j → c.etuSetting = setting (2 ^ j.periodsExp)) ∧
    (∀ u, c.stage = .pullLow → c.mask.pull = some u → c.pullCode = some (u.efcLow, u.settleMs)) ∧
    (∀ u, c.stage = .pullHigh → c.mask.pull = some u → c.pullCode = some (u.efcHigh, u.settleMs)) ∧
    (c.stage ≠ .pullLow → c.stage ≠ .pullHigh → c.pullCode = none)) ∧
  ∀ (s : State) (l : LaneId) (c : RunContext) (start : PendingStart), (s.lane l).active = some c → start ≠ .none →
    let ready := match c.pair with | none => false | some p => decide ((s.pair p).state = .ready)
    let work := fun (st : LaneState) (ends : Option Nat) (x : Lane) =>
      { x with state := st, holdQuiet := false, holdPair := false, pending := .none, interval := ends }
    (s.monitor.quiet = false ∨ (start ≠ .edgeStage ∧ ready = false) →
      comeToStart s l start = s.modLane l fun x =>
        { x with
          state := .held
          holdQuiet := !s.monitor.quiet
          holdPair := decide (start ≠ .edgeStage) && !ready
          pending := if start = .countedSegment ∧ ready = false then .settle else start
          interval := none }) ∧
    (s.monitor.quiet = true → ready = true →
      (start = .settle → comeToStart s l start = s.modLane l (work .settle (some (s.now + c.segment)))) ∧
      (start = .countedSegment → comeToStart s l start = s.modLane l (work .correlate (some (s.now + c.segment))))) ∧
    (s.monitor.quiet = true → start = .edgeStage →
      (c.pullCode = none →
        comeToStart s l start = startEtu (s.modLane l (work .edge none)) l c) ∧
      (∀ code wait, c.pullCode = some (code, wait) →
        comeToStart s l start = (s.modSocket c.request.socket fun k =>
          { k with efcOutput := BitVec.ofNat 12 code }).modLane l
            (work .edge (some (s.now + wait * 2000000000))))) ∧
    (∀ b bs, c.bands = b :: bs → c.segment =
      if b.band.first = 0 then 2000 * 2000000000 else if b.band.first = 1 then 200 * 2000000000
      else if b.band.first = 2 then 20 * 2000000000 else if b.band.first = 3 then 2 * 2000000000
      else 200 * 2000000)

/-- R113, R11, R12: a counted completion adds the segment's cross-spectrum to the accumulated one in every decade from
the first band's first to the last band's last, counts it, and forms each band's estimate, the highest averaged level
of its decades; it does the round-end work when the count is a power of two, and then ends the run COMPLETED, suspends
it for the request the lane's mark names, or comes to start the next counted segment. The averaged level of a decade
is 100 times the base-10 logarithm of the average's modulus, in tenths of dBc/Hz, rounded, and held within -2000 to
-300. R123: a suspension moves the run whole into the slot with PREEMPTED added and its run timer paused, leaves its
socket SUSPENDED and connected to nothing, clears the mark, and dispatches the named request into the lane. Model's
readings: timers hold their ends and an expiry moves the time there (log 2); measured values are operands, and an
averaged level is the modulus in dB (log 6). -/
def Obligations.CountedCompletionCountsThenGoesOn : Prop :=
  (∀ (z : CrossSpectrum) (n : Nat),
    -2000 ≤ averagedLevel z n ∧ averagedLevel z n ≤ -300 ∧
    ∀ k : Nat, 0 < k → k ≤ 1700 → ((k : Int) - 2000 ≤ averagedLevel z n ↔
      (n * 10 ^ 40) ^ 200 * 100 ^ k ≤ (z.re * z.re + z.im * z.im).natAbs ^ 100 * 10 ^ 4001)) ∧
  (∀ (spectrum : Vector CrossSpectrum 8) (n : Nat) (b : Band) (e : Int),
    estimateOf spectrum n b = some e ↔
      (∃ d : Fin 8, b.first ≤ d.val ∧ d.val ≤ b.last ∧ averagedLevel spectrum[d] n = e) ∧
      ∀ d : Fin 8, b.first ≤ d.val → d.val ≤ b.last → averagedLevel spectrum[d] n ≤ e) ∧
  (∀ (s : State) (l : LaneId) (q : Request) (m : Mask),
    s.markedRequest l = some (q, m) ↔
      ∃ r, (s.lane l).mark = some r ∧ s.queued r = some q ∧ (s.mask q.mask).contents = some m) ∧
  (∀ (s : State) (l : LaneId) (c : RunContext) (q : Request) (m : Mask),
    suspend s l c q m = dispatch
      ((s.modLane l fun x =>
        { x with
          state := .idle
          holdQuiet := false
          holdPair := false
          pending := .none
          interval := none
          etu := x.etu.stop
          connected := none
          active := none
          slot := some { c with
            elapsed := c.elapsed + (match c.since with | none => 0 | some t => s.now - t)
            since := none
            disturbances := { c.disturbances with preempted := true } }
          mark := none }).modSocket c.request.socket fun k =>
            { k with engagement := .suspended, lane := none }) q m l) ∧
  ∀ (s : State) (l : LaneId) (v : Vector CrossSpectrum 8) (c : RunContext) (d : Nat),
    (s.lane l).state = .correlate → (s.lane l).active = some c → (s.lane l).interval = some d →
    let u : State := { s with now := max s.now d }
    let measured := fun i : Fin 8 => match c.bands.head?, c.bands.getLast? with
      | some a, some z => decide (a.band.first ≤ i.val ∧ i.val ≤ z.band.last)
      | _, _ => false
    let sum : Vector CrossSpectrum 8 := Vector.ofFn fun i =>
      if measured i then ⟨c.spectrum[i].re + v[i].re, c.spectrum[i].im + v[i].im⟩ else c.spectrum[i]
    let a : RunContext :=
      { c with
        counted := c.counted + 1
        spectrum := sum
        bands := c.bands.map fun b => { b with estimate := estimateOf sum (c.counted + 1) b.band } }
    let r := countSegment u v c
    let w := u.modLane l fun x => { x with active := some r.1, interval := none }
    ((∀ k, c.counted + 1 ≠ 2 ^ k) → r = (a, false)) ∧
    (∀ k p y, c.counted + 1 = 2 ^ k → c.pair = some p → c.mask.band = some y →
      r.1 = a.endRound y (s.pair p).floors k ∧ r.2 = r.1.correlationEnds y k) ∧
    (r.2 = true → exec (.countedSegmentCompletion l v) s = .next (endActive w l .completed none)) ∧
    (∀ q m, r.2 = false → w.markedRequest l = some (q, m) →
      exec (.countedSegmentCompletion l v) s = .next (arbitrate (suspend w l r.1 q m))) ∧
    (r.2 = false → w.markedRequest l = none →
      exec (.countedSegmentCompletion l v) s = .next (arbitrate (comeToStart w l .countedSegment)))

/-- R13 to R16: at the end of round k every band's floor becomes F0 - 15 k, F0 the highest floor of the pair over the
band's decades; an OPEN band at or above the min round becomes FAIL, PASS or stays OPEN by the table of R14, and at
the max round is closed UNREACHED or MARGINAL; a decided band keeps its state; a FAIL band adds BAND; correlation ends
when every band is PASS or FAIL, on a FAIL under fail-fast, or at the max round. -/
def Obligations.RoundEndDecidesBands : Prop :=
  (∀ (floors : Vector Int 8) (b : Band) (f0 : Int), worstFloor floors b = some f0 ↔
    (∃ d : Fin 8, b.first ≤ d.val ∧ d.val ≤ b.last ∧ floors[d] = f0) ∧
    ∀ d : Fin 8, b.first ≤ d.val → d.val ≤ b.last → floors[d] ≤ f0) ∧
  ∀ (y : BandPart) (floors : Vector Int 8) (k : Nat) (c : RunContext), y.minRound ≤ y.maxRound →
    let t := c.endRound y floors k
    t.rounds = c.rounds + 1 ∧ t.counted = c.counted ∧
    t.bands = c.bands.flatMap (fun b => roundBands y floors k [b]) ∧
    (∀ (b : BandRun) (e f0 : Int), b.estimate = some e → worstFloor floors b.band = some f0 →
      let f := f0 - 15 * (k : Int)
      let clear := f ≤ b.band.limit - y.margin
      roundBands y floors k [b] = [{ b with
        floor := some f
        state :=
          if b.state ≠ .undecided ∨ k < y.minRound then b.state
          else if b.band.limit + y.guard ≤ e ∧ clear then .fail
          else if e ≤ b.band.limit - y.guard ∧ clear then .pass
          else if k = y.maxRound then (if b.band.limit - y.margin < f then .unreached else .marginal)
          else .undecided }]) ∧
    t.fails = { c.fails with band := c.fails.band || t.bands.any fun b => decide (b.state = .fail) } ∧
    (t.correlationEnds y k = true ↔
      (∀ b ∈ t.bands, b.state = .pass ∨ b.state = .fail) ∨
      (c.mask.failFast = true ∧ ∃ b ∈ t.bands, b.state = .fail) ∨ k = y.maxRound)

/-- R114, R111, R115, R139: a SETTLE's completion comes to start a counted segment; the EFC settle wait's expiry
starts the unit; the run timer's expiry ends the run TIMEOUT; the edge timeout stops the unit and ends the run
NO_SIGNAL. Model's readings: timers hold their ends and an expiry moves the time there (log 2). -/
def Obligations.LaneTimersExpire : Prop :=
  ∀ (s : State) (l : LaneId) (c : RunContext) (d : Nat), (s.lane l).active = some c →
    let u : State := { s with now := max s.now d }
    ((s.lane l).state = .settle → (s.lane l).interval = some d →
      exec (.settleCompletion l) s = .next (arbitrate (comeToStart u l .countedSegment))) ∧
    ((s.lane l).state = .edge → (s.lane l).interval = some d →
      exec (.efcSettleExpiry l) s = .next ((u.modLane l fun x =>
        { x with
          interval := none
          etu := Etu.start c.etuSetting (match x.connected with | none => false | some k => s.lines.signal[k])
            (max s.now d) }))) ∧
    (∀ t0, c.since = some t0 → d = t0 + (c.mask.runLimit * 2000000000000 - c.elapsed) →
      exec (.runTimerExpiry l) s = .next (endActive u l .timeout none)) ∧
    ((s.lane l).etu.timeout = some d →
      exec (.edgeTimeout l) s = .next (endActive (u.modLane l fun x => { x with etu := x.etu.stop }) l .noSignal none))

/-! ## Edge Timing Units -/

/-- R133, R134: a transition away from the filtered level of a started unit starts a qualification for the width, or
is accepted at once with a width of 0; a return within the width is a glitch, counted up to 65,535; a unit in STOPPED
and a socket connected to no lane take nothing; at the width's expiry the edge is accepted with its transition's
stamp. Model's readings: timers hold their ends and an expiry moves the time there (log 2); operands of the line
events (log 14). -/
def Obligations.TransitionsQualifyOrGlitch : Prop :=
  ∀ (s : State) (k : SocketId) (high : Bool) (x : Stamp), s.inReset = false → s.lines.signal[k] ≠ high →
    let u : State :=
      { s with
        lines := { s.lines with signal := s.lines.signal.set k high }
        now := s.now + (x - BitVec.ofNat 56 s.now).toNat }
    let c : Instr := .etuInputTransition k high x
    (s.laneOn k = none → (∀ l, (s.lane l).connected ≠ some k) ∧ exec c s = .next u) ∧
    ∀ l, s.laneOn k = some l →
      let e := (s.lane l).etu
      (s.lane l).connected = some k ∧ (∀ g, e.setting = some g → e.width = g.width) ∧
      (e.state = .stopped → exec c s = .next u) ∧
      (e.state ≠ .stopped →
        (high = e.filtered → e.qualification = none → exec c s = .next u) ∧
        (high = e.filtered → e.qualification ≠ none →
          exec c s = .next (u.modLane l fun y =>
            { y with etu :=
              { y.etu with
                qualification := none
                glitches := if 65535 < y.etu.glitches + 1 then 65535 else y.etu.glitches + 1 } })) ∧
        (high ≠ e.filtered → e.width = 0 → exec c s = .next (acceptEdge u l high x)) ∧
        (high ≠ e.filtered → e.width ≠ 0 →
          exec c s = .next (u.modLane l fun y =>
            { y with etu := { y.etu with qualification := some ⟨x, u.now + e.width⟩ } })) ∧
        (∀ q, e.qualification = some q →
          exec (.filterWidthExpiry l) s = .next
            (acceptEdge { s with now := max s.now q.endsAt } l (!e.filtered) q.stamp)))

/-- R136 to R139: an accepted edge moves the filtered level; RISING times the rising edges, FALLING the falling ones
and BOTH all; a timed edge enters the history and restarts the 50 µs timeout; the first that opens takes OPENING to
COUNTING with no period; in COUNTING a RISING or FALLING edge forms the sample to the previous timed edge, a rising
edge in BOTH the sample to the one before the previous and its high time; the statistics take it exactly. R138: the
window closes at the accepted edge that brings the period count to the setting's N; any other accepted edge leaves the
unit counting on. Model's readings: timers hold their ends and an expiry moves the time there (log 2). -/
def Obligations.AcceptedEdgesFormPeriods : Prop :=
  (∀ rising : Bool,
    EdgeMode.rising.times rising = rising ∧ EdgeMode.falling.times rising = !rising ∧
    EdgeMode.both.times rising = true) ∧
  (∀ (s : State) (l : LaneId) (level : Bool) (x : Stamp),
    let e := (s.lane l).etu
    let a := e.accept level x s.now
    (∀ g, e.setting = some g → a.periods ≠ e.periods → a.periods = g.periods →
      acceptEdge s l level x = closeWindow s l a) ∧
    ((∀ g, e.setting = some g → a.periods = e.periods ∨ a.periods ≠ g.periods) →
      acceptEdge s l level x = s.modLane l fun y => { y with etu := a })) ∧
  ∀ (e : Etu) (g : EtuSetting) (level : Bool) (x : Stamp) (now : Nat), e.setting = some g →
    let moved := { e with filtered := level, qualification := none }
    let timed := { moved with
      history := (⟨level, x⟩ :: e.history).take (if g.mode = .both then 3 else 2)
      timeout := some (now + 50 * 2000000) }
    (g.mode.times level = false → e.accept level x now = moved) ∧
    (g.mode.times level = true →
      (g.mode = .both → level = false → e.accept level x now = timed) ∧
      (g.mode ≠ .both ∨ level = true →
        (e.state = .opening → e.accept level x now = { timed with state := .counting }) ∧
        (∀ prev before rest, e.state = .counting → e.history = prev :: before :: rest → g.mode = .both →
          e.accept level x now = { timed with
            periods := e.periods + 1
            stats := e.stats.add (x - before.stamp).toNat (prev.stamp - before.stamp).toNat }) ∧
        (∀ prev rest, e.state = .counting → e.history = prev :: rest → g.mode ≠ .both →
          e.accept level x now = { timed with
            periods := e.periods + 1
            stats := e.stats.add (x - prev.stamp).toNat 0 }))) ∧
    ∀ p h : Nat,
      e.stats.add p h =
        ⟨e.stats.span + p, e.stats.squares + p * p,
         some (match e.stats.shortest with | none => p | some y => min y p),
         some (match e.stats.longest with | none => p | some y => max y p), e.stats.high + h⟩

/-- R5, R7, R8, R135, R138, R146: at a window close the unit stops, keeps its glitch count in a JITTER stage alone,
and the run takes its stage's results and decision: a FREQUENCY offset beyond tolerance ends it OFF_FREQUENCY; a
JITTER stage adds the members whose limits are exceeded and under fail-fast ends it COMPLETED; PULL LOW is held and
PULL HIGH adds PULL below the minimum; otherwise it goes on with its plan. R4, R110: going on starts the next stage of
the plan, and past the last one the run ends COMPLETED. R141 to R145: for spans above 0 the offset, the RMS and
peak-to-peak jitter, the duty cycle and the pull are the exact figures of the rules, rounded to the nearest integer
with halves away from zero and held within their ranges. Model's readings: a window of span 0 gives free values (log
10); a closed window keeps its counts until the next start, but for the glitch count outside JITTER (log 22). -/
def Obligations.WindowCloseAppliesTheStageDecision : Prop :=
  (let nearest := fun (num : Int) (den : Nat) (r : Int) =>
     2 * (num - r * den).natAbs < den ∨ (2 * (num - r * den).natAbs = den ∧ num.natAbs < (r * den).natAbs)
   (∀ n span f : Nat, 0 < span → 0 < f → ∃ r : Int,
     nearest ((((n * 2000000000000 : Nat) : Int) - ((span * f : Nat) : Int)) * 1000000000) (span * f) r ∧
     offsetPpb n span f =
       if r < -2000000000 then -2000000000 else if 2000000000 < r then 2000000000 else r) ∧
   (∀ n span squares : Nat, 0 < n → span * span ≤ n * squares → ∃ r : Nat,
     let a := 250000 * (n * squares - span * span)
     (r = 0 ∨ ((2 * r - 1) * n) ^ 2 ≤ 4 * a) ∧ 4 * a < ((2 * r + 1) * n) ^ 2 ∧
     rmsJitter n span squares = if 4294967294 < r then 4294967294 else r) ∧
   (∀ (t : PeriodStats) (lo hi : Nat), t.shortest = some lo → t.longest = some hi →
     ppJitter t = if 4294967294 < 500 * (hi - lo) then 4294967294 else 500 * (hi - lo)) ∧
   (∀ t : PeriodStats, 0 < t.span → ∃ r : Nat,
     nearest ((t.high * 10000 : Nat) : Int) t.span r ∧ dutyCycle t = if 10000 < r then 10000 else r) ∧
   (∀ n0 s0 n1 s1 f : Nat, 0 < s0 → 0 < s1 → 0 < f → ∃ r : Nat,
     nearest (((((n1 * s0 : Nat) : Int) - ((n0 * s1 : Nat) : Int)).natAbs * (2000000000000 * 1000000) : Nat) : Int)
       (s1 * s0 * f) r ∧
     pullPpm (s0, n0) (s1, n1) f = if 65534 < r then 65534 else r)) ∧
  (∀ (s : State) (l : LaneId) (c : RunContext) (before after : List Stage) (x : Stage),
    (s.lane l).active = some c → c.stage ∉ before →
    (c.plan = before ++ c.stage :: x :: after →
      advance s l = arbitrate (comeToStart (s.modLane l fun y => { y with active := some { c with stage := x } }) l
        (if x = .correlation then .countedSegment else .edgeStage))) ∧
    (c.plan = before ++ [c.stage] → advance s l = endActive s l .completed none)) ∧
  ∀ (s : State) (l : LaneId) (c : RunContext) (e : Etu), (s.lane l).active = some c →
    let close := fun d : RunContext => s.modLane l fun x =>
      { x with
        etu :=
          { e with
            state := .stopped
            timeout := none
            glitches := if e.setting.map EtuSetting.stage = some .jitter then e.glitches else 0 }
        active := some d }
    (c.stage = .frequency →
      let f := offsetPpb e.periods e.stats.span c.mask.nominal
      let d := { c with frequency := some f }
      closeWindow s l e =
        if c.mask.tolerance * 1000 < f.natAbs then endActive (close d) l .offFrequency none else advance (close d) l) ∧
    (∀ j, c.stage = .jitter → c.mask.jitter = some j →
      let r : JitterResult := ⟨rmsJitter e.periods e.stats.span e.stats.squares, ppJitter e.stats⟩
      let d := { c with
        jitter := some r
        glitches := e.glitches
        duty := if c.mask.edgeMode = .both then some (dutyCycle e.stats) else none
        fails := { c.fails with
          jitterRms := c.fails.jitterRms || decide (j.rmsLimit < r.rms)
          jitterPp := c.fails.jitterPp || decide (j.ppLimit < r.pp)
          glitch := c.fails.glitch || decide (j.glitchLimit < e.glitches) } }
      closeWindow s l e =
        if d.fails.any = true ∧ c.mask.failFast = true then endActive (close d) l .completed none
        else advance (close d) l) ∧
    (c.stage = .pullLow →
      closeWindow s l e = advance (close { c with pullLow := some (e.stats.span, e.periods) }) l) ∧
    (∀ low u, c.stage = .pullHigh → c.pullLow = some low → c.mask.pull = some u →
      let f := pullPpm low (e.stats.span, e.periods) c.mask.nominal
      closeWindow s l e = advance (close { c with
        pull := some f
        fails := { c.fails with pull := c.fails.pull || decide (f < u.minPull) } }) l)

/-! ## Run end, records and counters -/

/-- R128, R152, R153, R38, R56, R81: the run-end actions commit the record into every ring that holds a reservation of
the run, lower the mask's count and the pair's attachments by 1, let the planner pass when the pair has become free,
leave the socket IDLE, restore its EFC output after a PULL CHECK, bump the yield count of the verdict's class (R25),
and leave every lane alone. R152: a commit fills the run's reserved entry where it stands and changes no other. R24,
R115, R162 to R164: the record is the run's verdict, abort cause, rounds, retries, fail, disturbance and
skipped-copies sets, counted segments, run time in whole seconds, stage results, and each band's state, estimate and
floor. R125, R128 step 7, R124: an active run that ends has its ending and cause set and its work discarded; its lane
becomes IDLE and is offered to the arbiter, or takes its slot's run back, its timer running on and its socket RUNNING,
to come to start a SETTLE. R126: a run in the slot is aborted in place. R23: the verdict is the first line that
applies. Model's readings: the order within one event (log 8); run times are held at the run time limit (log 16). -/
def Obligations.RunEndCommitsAndReleases : Prop :=
  (∀ (run : RequestRef) (rec : Record) (es : List RingEntry),
    let kept := fun e : RingEntry => e.record = none ∧ e.run = run
    ((∀ e ∈ es, ¬ kept e) → commitEntries run rec es = es) ∧
    (∀ before e after, es = before ++ e :: after → (∀ x ∈ before, ¬ kept x) → kept e →
      commitEntries run rec es = before ++ { e with record := some rec } :: after)) ∧
  (∀ (c : RunContext) (now : Nat), c.record now =
    { verdict := c.verdict
      cause := c.cause
      rounds := c.rounds
      retries := c.retries
      fails := c.fails
      disturbances := c.disturbances
      skipped := c.skipped
      counted := c.counted
      runTime := (min (c.mask.runLimit * 2000000000000)
        (c.elapsed + match c.since with | none => 0 | some t => now - t)) / 2000000000000
      frequency := c.frequency
      pull := c.pull
      jitter := c.jitter
      glitches := c.glitches
      duty := c.duty
      bands := c.bands.map fun b => ⟨b.state, b.estimate, b.floor⟩ }) ∧
  (∀ (s : State) (c : RunContext),
    let t := runEndActions s c
    let committed : State := { s with
      rings := Vector.ofFn fun n : StationId =>
        if c.refs[n] = true ∧ ¬ (c.cause = some .stationReset ∧ n = c.request.station) then
          ⟨commitEntries c.request.ref (c.record s.now) (s.ring n).entries⟩
        else s.ring n
      masks := updateAt s.masks c.request.mask fun e => { e with refCount := e.refCount - 1 } }
    let detached : State := match c.pair with
      | none => committed
      | some p =>
        let u := committed.modPair p fun x => { x with attachments := x.attachments - 1 }
        if (s.pair p).attachments ≤ 1 ∧ (s.pair p).state = PairState.ready then plannerPass u else u
    t = bumpYield (detached.modSocket c.request.socket fun k : Socket =>
        { k with
          engagement := .idle
          request := none
          lane := none
          efcOutput := if c.request.kind = .pullCheck then (if k.supply = .on then k.efcCode else 0) else k.efcOutput })
      c.request.socket (match c.verdict with
        | .pass => 0
        | .fail => 1
        | .marginal => 2
        | .unreached => 3
        | _ => 4) ∧
    (∀ n : StationId, t.ring n =
      if c.refs[n] = true ∧ ¬ (c.cause = some .stationReset ∧ n = c.request.station) then
        ⟨commitEntries c.request.ref (c.record s.now) (s.ring n).entries⟩
      else s.ring n) ∧
    (∀ m, (t.mask m).refCount = if m = c.request.mask then (s.mask m).refCount - 1 else (s.mask m).refCount) ∧
    (∀ p, (t.pair p).attachments =
      if c.pair = some p then (s.pair p).attachments - 1 else (s.pair p).attachments) ∧
    (∀ k, (t.socket k).engagement = if k = c.request.socket then .idle else (s.socket k).engagement) ∧
    (∀ k, k = c.request.socket → (t.socket k).request = none ∧ (t.socket k).lane = none) ∧
    t.lanes = s.lanes) ∧
  (∀ (s : State) (l : LaneId) (e : Ending) (cause : Option AbortCause),
    ((s.lane l).active = none → endActive s l e cause = s) ∧
    (∀ c, (s.lane l).active = some c →
      let t := runEndActions (s.modLane l fun x =>
        { x with
          state := .idle
          holdQuiet := false
          holdPair := false
          pending := .none
          interval := none
          etu := x.etu.stop
          connected := none
          active := none }) { c with ending := some e, cause := cause }
      ((s.lane l).slot = none → endActive s l e cause = arbitrate t) ∧
      (∀ d, (s.lane l).slot = some d →
        endActive s l e cause = arbitrate (comeToStart ((t.modLane l fun x =>
          { x with active := some { d with since := some t.now }, slot := none, connected := some d.request.socket })
            |>.modSocket d.request.socket fun k => { k with engagement := .running, lane := some l }) l .settle)))) ∧
  (∀ (s : State) (l : LaneId) (cause : AbortCause),
    ((s.lane l).slot = none → abortSlot s l cause = s) ∧
    (∀ c, (s.lane l).slot = some c →
      abortSlot s l cause = arbitrate (runEndActions (s.modLane l fun x => { x with slot := none })
        { c with ending := some .aborted, cause := some cause }))) ∧
  ∀ c : RunContext, c.verdict =
    if c.cause ≠ none then .aborted
    else if c.ending = some .timeout then .timeout
    else if c.ending = some .disturbed then .disturbed
    else if c.ending = some .noSignal then .noSignal
    else if c.ending = some .offFrequency then .offFrequency
    else if c.fails ≠ ⟨false, false, false, false, false⟩ then .fail
    else if ∃ b ∈ c.bands, b.state = .unreached then .unreached
    else if ∃ b ∈ c.bands, b.state = .marginal then .marginal
    else .pass

/-- R155, R156: with a committed head, READ RECORD removes it and answers the readable and reserved counts left and
the verdict record, 34 + 8 b bytes for b bands, and the pool is told; with a reserved head or an empty ring it answers
EMPTY with counts, free words and head role, and changes nothing. R161 to R164: the verdict record is the words of the
verdict record word layout, each low byte first: the descriptor D0 to D3 and two words a band, then W0 to W11 and two
words a band, with the fixed patterns of what is absent. Model's readings: the order within one event (log 8). -/
def Obligations.ReadRecordTakesTheHead : Prop :=
  (∀ r : Ring,
    r.reserved = r.entries.countP (fun e => e.record.isNone) ∧
    r.committed = r.entries.countP fun e => e.record.isSome) ∧
  (∀ (e : RingEntry) (r : Record),
    let d := e.descriptor
    let word := fun z : Int => (z % 65536).toNat
    verdictBytes e r = (
      [d.id.toNat, d.loadGen.toNat,
       d.socket.val + 16 * d.mask.val + 512 * d.owner.val + 2048 * (match e.role with | .original => 0 | .copy => 1) +
         4096 * (match d.kind with | .measure => 0 | .frequencyCheck => 1 | .pullCheck => 2),
       d.version.toNat + 256 * d.bands.length + 4096 * (match d.pair with | none => 3 | some p => p.val)] ++
      (d.bands.flatMap fun b : Band => [b.first + 8 * b.last, word b.limit]) ++
      [(match r.verdict with
         | .pass => 0
         | .fail => 1
         | .marginal => 2
         | .unreached => 3
         | .offFrequency => 4
         | .noSignal => 5
         | .disturbed => 6
         | .timeout => 7
         | .aborted => 8) +
       16 * (match r.cause with
         | some .cancelled => 0
         | some .removed => 1
         | some .supply => 2
         | some .cutoff => 3
         | some .pairFault => 4
         | some .stationReset => 5
         | none => 7) + 128 * r.rounds + 2048 * r.retries,
       bitsOf [r.fails.band, r.fails.jitterRms, r.fails.jitterPp, r.fails.glitch, r.fails.pull] +
         32 * bitsOf [r.disturbances.motion, r.disturbances.retried, r.disturbances.waited, r.disturbances.unlock,
           r.disturbances.preempted] +
         1024 * bitsOf [r.skipped[0], r.skipped[1], r.skipped[2], r.skipped[3]],
       r.counted, r.runTime] ++
      (match d.kind, r.frequency with
        | .pullCheck, _ => [r.pull.getD 65535, 0]
        | _, none => [0, 32768]
        | _, some z => [(z % 4294967296).toNat % 65536, (z % 4294967296).toNat / 65536]) ++
      (match r.jitter with
        | none => [65535, 65535, 65535, 65535]
        | some j => [j.rms % 65536, j.rms / 65536, j.pp % 65536, j.pp / 65536]) ++
      [r.glitches, r.duty.getD 65535] ++
      r.bands.flatMap fun b : BandEntry =>
        [match b.estimate with | none => 32768 | some z => word z,
         (match b.state with | .undecided => 0 | .pass => 1 | .fail => 2 | .marginal => 3 | .unreached => 4) +
           8 * (match b.floor with | none => 8191 | some f => f.natAbs)]).flatMap
      fun w : Nat => [BitVec.ofNat 8 w, BitVec.ofNat 8 (w / 256)]) ∧
  ∀ (n : StationId) (s : State), s.takes n = true →
    (∀ e es r, (s.ring n).entries = e :: es → e.record = some r →
      let left : Ring := ⟨es⟩
      exec (.readRecord n []) s = .next
        ((arbitrate (s.modRing n fun _ => left)).answerAt n
          ⟨.ok, [BitVec.ofNat 8 left.readable, BitVec.ofNat 8 left.reserved] ++ verdictBytes e r⟩) ∧
      (r.bands.length = e.descriptor.bands.length →
        (verdictBytes e r).length + 2 = 34 + 8 * e.descriptor.bands.length)) ∧
    (∀ e es, (s.ring n).entries = e :: es → e.record = none →
      exec (.readRecord n []) s = .next (s.answerAt n
        ⟨.empty, [BitVec.ofNat 8 (s.ring n).reserved, BitVec.ofNat 8 (s.ring n).committed] ++
          bytes16 (s.ring n).free ++ [if e.role = .original then 0 else 1]⟩)) ∧
    ((s.ring n).entries = [] →
      exec (.readRecord n []) s = .next (s.answerAt n ⟨.empty, [0, 0, 0, 2, 255]⟩))

/-- R168 to R171: an increment is skipped under freeze, and at 65,535 under SATURATE; otherwise the count moves by 1,
65,535 wrapping to 0, and a HALF or FULL crossing replaces the last-crossing record and sets COUNTER at every port.
COUNTER CONTROL replaces the settings and performs its action; READ COUNTERS answers 6 + 12 n bytes, the settings
byte, the range, the last crossing and six counts of two bytes for each socket in turn, and, with reset-on-read,
zeroes exactly the counts returned. Model's readings: answers described in words only, empty where none is described
(log 5). -/
def Obligations.CountersCountAndAreRead : Prop :=
  (∀ (s : State) (k : SocketId) (i : Fin 6),
    let v := s.counters.counts[k][i]
    let t := s.modCounters fun c =>
      { c with
        counts := updateAt c.counts k fun row => updateAt row i fun w => w + 1
        last := if v = 32767 then some ⟨k, i, .half⟩ else if v = 65534 then some ⟨k, i, .full⟩ else c.last }
    (s.counters.freeze = true ∨ (s.counters.saturate = true ∧ v = 65535) → bumpYield s k i = s) ∧
    (s.counters.freeze = false → (s.counters.saturate = false ∨ v ≠ 65535) →
      bumpYield s k i = if v = 32767 ∨ v = 65534 then t.latchAll fun l => { l with counter := true } else t)) ∧
  ∀ (n : StationId) (a b : Byte) (s : State), s.takes n = true →
    (7 < a.toNat ∨ 3 < b.toNat → exec (.counterControl n [a, b]) s = .next (s.answerAt n ⟨.range, []⟩)) ∧
    (a.toNat ≤ 7 → b.toNat ≤ 3 →
      let fill := fun v : Word16 => Vector.replicate 16 (Vector.replicate 6 v)
      exec (.counterControl n [a, b]) s = .next
        ((s.modCounters fun c =>
          ⟨if b = 1 then fill 0 else if b = 2 then fill 32752 else if b = 3 then fill 65520 else c.counts,
           a.getLsbD 0, a.getLsbD 1, a.getLsbD 2, if b = 0 then c.last else none⟩).answerAt n ⟨.ok, [a]⟩)) ∧
    (15 < a.toNat ∨ b.toNat = 0 ∨ 8 < b.toNat ∨ 16 < a.toNat + b.toNat →
      exec (.readCounters n [a, b]) s = .next (s.answerAt n ⟨.range, []⟩)) ∧
    (1 ≤ b.toNat → b.toNat ≤ 8 → a.toNat + b.toNat ≤ 16 →
      let within := fun k : SocketId => a.toNat ≤ k.val ∧ k.val < a.toNat + b.toNat
      let ans : Answer := ⟨.ok, countersPayload s.counters a.toNat b.toNat⟩
      let count := fun k i : Nat => ((s.counters.counts.toList.map Vector.toList).getD k []).getD i 0
      ans.payload.length = 6 + 12 * b.toNat ∧
      ans.payload =
        [BitVec.ofNat 8 (bitsOf [s.counters.freeze, s.counters.saturate, s.counters.resetOnRead]), a, b] ++
        (match s.counters.last with
          | none => [255, 255, 255]
          | some x => [BitVec.ofNat 8 x.socket.val, BitVec.ofNat 8 x.index.val, if x.crossing = .half then 0 else 1]) ++
        (List.range b.toNat).flatMap (fun j => (List.range 6).flatMap fun i =>
          [(count (a.toNat + j) i).extractLsb' 0 8, (count (a.toNat + j) i).extractLsb' 8 8]) ∧
      exec (.readCounters n [a, b]) s = .next
        ((if s.counters.resetOnRead then
          s.modCounters fun c =>
            { c with counts := Vector.ofFn fun k => if within k then Vector.replicate 6 0 else c.counts[k] }
          else s).answerAt n ans))

/-! ## Laws every step keeps, and frames -/

/-- R147, R34, R86, R49, R60: every step keeps the ring law, the validity of DEFINED masks, the pool's places, and,
together, the line monitor's law and the supply law. -/
def Obligations.StepKeepsRingMaskPoolLineAndSupplyLaws : Prop :=
  ∀ s t : State, step s = .next t →
    (s.ringsFit → t.ringsFit) ∧ (s.masksValid → t.masksValid) ∧ (s.poolFits → t.poolFits) ∧
    (s.lineLaw → t.lineLaw) ∧ (s.lineLaw → s.supplyLaw → t.supplyLaw)

/-- R66, R67, R73, R76, R106 to R108: every step keeps the laws of pairs and of lanes. R38, R81, R86, R56, R108, R88,
R101: every step that meets the law of lanes keeps the laws of the work: a mask's reference count is the number of
live requests that name it, a pair's attachment count the number of runs attached to it, a socket has at most one live
request and its engagement, request and connected lane are that request's place, a lane and a socket that are
connected name each other, live requests have distinct names, and a lane with a full slot has no mark. -/
def Obligations.StepKeepsPairAndLaneLaws : Prop :=
  ∀ s t : State, step s = .next t →
    (s.pairsLawful → t.pairsLawful) ∧ (s.lanesLawful → t.lanesLawful) ∧
    (s.lanesLawful → s.workLaw → t.workLaw)

/-- The reset state has every law that a step keeps. Model's readings: input levels at reset (log 4). -/
def Obligations.ResetStateHasEveryLaw : Prop :=
  State.reset.ringsFit ∧ State.reset.masksValid ∧ State.reset.poolFits ∧ State.reset.lineLaw ∧
  State.reset.supplyLaw ∧ State.reset.pairsLawful ∧ State.reset.lanesLawful ∧ State.reset.workLaw

/-- R37, R38: a mask with a reference count above 0 keeps its contents and version through every command and event but
a device reset. A command at one port changes nothing of another port but latched notices. Only the line events change
input levels, only COUNTER CONTROL and a device reset the counter settings, and only the socket table's own commands
and events and resets the presence, load generation, flags, owner, supply, powered-for and EFC code of a socket. -/
def Obligations.CommandsLeaveOtherBlocksAlone : Prop :=
  ∀ (c : Instr) (s t : State), exec c s = .next t → c ≠ .deviceReset → c ≠ .deviceResetEnd →
    (∀ m, 0 < (s.mask m).refCount →
      (t.mask m).contents = (s.mask m).contents ∧ (t.mask m).version = (s.mask m).version) ∧
    (∀ n j, portOf c = some n → j ≠ n →
      ({ t.port j with latched := (s.port j).latched } : Port) = s.port j) ∧
    (match c with
      | .presentChange _ _ | .supplyFault _ _ | .motionAssertion | .motionFall | .cutoffAssertion
      | .cutoffDeassertion | .lockRise _ | .lockFall _ | .etuInputTransition _ _ _ | .srstnAssertion _
      | .srstnRelease _ | .csnFall _ | .csnRise _ => True
      | _ => t.lines = s.lines) ∧
    (match c with
      | .counterControl _ _ => True
      | _ => t.counters.freeze = s.counters.freeze ∧ t.counters.saturate = s.counters.saturate ∧
          t.counters.resetOnRead = s.counters.resetOnRead) ∧
    (match c with
      | .claimSocket _ _ | .releaseSocket _ _ | .powerSocketOn _ _ | .powerSocketOff _ _ | .setEfc _ _
      | .querySocket _ _ | .resetStepSockets _ | .presentChange _ _ | .riseAccepted _ | .fallAccepted _
      | .supplyFault _ _ | .poweredForIncrease _ | .cutoffAssertion => True
      | _ => ∀ k, (t.socket k).presence = (s.socket k).presence ∧ (t.socket k).loadGen = (s.socket k).loadGen ∧
          (t.socket k).rose = (s.socket k).rose ∧ (t.socket k).fell = (s.socket k).fell ∧
          (t.socket k).owner = (s.socket k).owner ∧ (t.socket k).supply = (s.socket k).supply ∧
          (t.socket k).poweredFor = (s.socket k).poweredFor ∧ (t.socket k).efcCode = (s.socket k).efcCode)

/-- R174, R175, the command table: the bytes of every well-formed command's frame are read back as that command, with
every payload byte, and a length byte above 120 is read as the length error at once. Model's readings: a frame is one
step (log 1); the setting byte chooses the row (log 13). -/
def Obligations.FramesReadBackAsTheirCommands : Prop :=
  (∀ (c : Instr) (p : StationId) (bytes : List Byte), c.wellFormed = true → portOf c = some p →
    frameBytes c = some bytes → commandOfBytes p bytes = some c) ∧
  ∀ (p : StationId) (code len : Byte), 120 < len.toNat →
    commandOfBytes p [code, len] = some (.frameLengthError p len)
end

