-- ==== Sys2Proof/Laws/State.lean ====
section
/-!
SUPPORT. One lemma per field per update of the state, each true by computation, so that no proof unfolds a record
update; and reading one entry after one entry has been changed.
-/
namespace Sys2Proof.Machine

/-! ## One entry of a table -/

theorem updateAt_get {n : Nat} {α : Type} (v : Vector α n) (i j : Fin n) (f : α → α) :
    (updateAt v i f)[j] = if j = i then f v[i] else v[j] := by
  by_cases h : j = i
  · subst h; simp [updateAt]
  · have h' : (i : Nat) ≠ j := fun e => h (Fin.ext e.symm)
    simp [updateAt, h, h']

theorem updateAt_same {n : Nat} {α : Type} (v : Vector α n) (i : Fin n) (f : α → α) :
    (updateAt v i f)[i] = f v[i] := (updateAt_get v i i f).trans (if_pos rfl)

@[simp] theorem modSocket_now (s : State) (k : SocketId) (f : Socket → Socket) : (s.modSocket k f).now = s.now := rfl
@[simp] theorem modSocket_inReset (s : State) (k : SocketId) (f : Socket → Socket) : (s.modSocket k f).inReset = s.inReset := rfl
@[simp] theorem modSocket_lines (s : State) (k : SocketId) (f : Socket → Socket) : (s.modSocket k f).lines = s.lines := rfl
@[simp] theorem modSocket_sockets (s : State) (k : SocketId) (f : Socket → Socket) : (s.modSocket k f).sockets = updateAt s.sockets k f := rfl
@[simp] theorem modSocket_monitor (s : State) (k : SocketId) (f : Socket → Socket) : (s.modSocket k f).monitor = s.monitor := rfl
@[simp] theorem modSocket_masks (s : State) (k : SocketId) (f : Socket → Socket) : (s.modSocket k f).masks = s.masks := rfl
@[simp] theorem modSocket_pool (s : State) (k : SocketId) (f : Socket → Socket) : (s.modSocket k f).pool = s.pool := rfl
@[simp] theorem modSocket_retune (s : State) (k : SocketId) (f : Socket → Socket) : (s.modSocket k f).retune = s.retune := rfl
@[simp] theorem modSocket_pairs (s : State) (k : SocketId) (f : Socket → Socket) : (s.modSocket k f).pairs = s.pairs := rfl
@[simp] theorem modSocket_link (s : State) (k : SocketId) (f : Socket → Socket) : (s.modSocket k f).link = s.link := rfl
@[simp] theorem modSocket_lanes (s : State) (k : SocketId) (f : Socket → Socket) : (s.modSocket k f).lanes = s.lanes := rfl
@[simp] theorem modSocket_rings (s : State) (k : SocketId) (f : Socket → Socket) : (s.modSocket k f).rings = s.rings := rfl
@[simp] theorem modSocket_counters (s : State) (k : SocketId) (f : Socket → Socket) : (s.modSocket k f).counters = s.counters := rfl
@[simp] theorem modSocket_ports (s : State) (k : SocketId) (f : Socket → Socket) : (s.modSocket k f).ports = s.ports := rfl
@[simp] theorem modSocket_pending (s : State) (k : SocketId) (f : Socket → Socket) : (s.modSocket k f).pending = s.pending := rfl
@[simp] theorem modSocket_mask (s : State) (k : SocketId) (f : Socket → Socket) (j : MaskId) : (s.modSocket k f).mask j = s.mask j := rfl
@[simp] theorem modSocket_pair (s : State) (k : SocketId) (f : Socket → Socket) (j : PairId) : (s.modSocket k f).pair j = s.pair j := rfl
@[simp] theorem modSocket_lane (s : State) (k : SocketId) (f : Socket → Socket) (j : LaneId) : (s.modSocket k f).lane j = s.lane j := rfl
@[simp] theorem modSocket_ring (s : State) (k : SocketId) (f : Socket → Socket) (j : StationId) : (s.modSocket k f).ring j = s.ring j := rfl
@[simp] theorem modSocket_port (s : State) (k : SocketId) (f : Socket → Socket) (j : StationId) : (s.modSocket k f).port j = s.port j := rfl
@[simp] theorem modSocket_socket (s : State) (k : SocketId) (f : Socket → Socket) (j : SocketId) :
    (s.modSocket k f).socket j = if j = k then f (s.socket k) else s.socket j := updateAt_get _ _ _ _

@[simp] theorem modMask_now (s : State) (m : MaskId) (f : MaskEntry → MaskEntry) : (s.modMask m f).now = s.now := rfl
@[simp] theorem modMask_inReset (s : State) (m : MaskId) (f : MaskEntry → MaskEntry) : (s.modMask m f).inReset = s.inReset := rfl
@[simp] theorem modMask_lines (s : State) (m : MaskId) (f : MaskEntry → MaskEntry) : (s.modMask m f).lines = s.lines := rfl
@[simp] theorem modMask_sockets (s : State) (m : MaskId) (f : MaskEntry → MaskEntry) : (s.modMask m f).sockets = s.sockets := rfl
@[simp] theorem modMask_monitor (s : State) (m : MaskId) (f : MaskEntry → MaskEntry) : (s.modMask m f).monitor = s.monitor := rfl
@[simp] theorem modMask_masks (s : State) (m : MaskId) (f : MaskEntry → MaskEntry) : (s.modMask m f).masks = updateAt s.masks m f := rfl
@[simp] theorem modMask_pool (s : State) (m : MaskId) (f : MaskEntry → MaskEntry) : (s.modMask m f).pool = s.pool := rfl
@[simp] theorem modMask_retune (s : State) (m : MaskId) (f : MaskEntry → MaskEntry) : (s.modMask m f).retune = s.retune := rfl
@[simp] theorem modMask_pairs (s : State) (m : MaskId) (f : MaskEntry → MaskEntry) : (s.modMask m f).pairs = s.pairs := rfl
@[simp] theorem modMask_link (s : State) (m : MaskId) (f : MaskEntry → MaskEntry) : (s.modMask m f).link = s.link := rfl
@[simp] theorem modMask_lanes (s : State) (m : MaskId) (f : MaskEntry → MaskEntry) : (s.modMask m f).lanes = s.lanes := rfl
@[simp] theorem modMask_rings (s : State) (m : MaskId) (f : MaskEntry → MaskEntry) : (s.modMask m f).rings = s.rings := rfl
@[simp] theorem modMask_counters (s : State) (m : MaskId) (f : MaskEntry → MaskEntry) : (s.modMask m f).counters = s.counters := rfl
@[simp] theorem modMask_ports (s : State) (m : MaskId) (f : MaskEntry → MaskEntry) : (s.modMask m f).ports = s.ports := rfl
@[simp] theorem modMask_pending (s : State) (m : MaskId) (f : MaskEntry → MaskEntry) : (s.modMask m f).pending = s.pending := rfl
@[simp] theorem modMask_socket (s : State) (m : MaskId) (f : MaskEntry → MaskEntry) (j : SocketId) : (s.modMask m f).socket j = s.socket j := rfl
@[simp] theorem modMask_pair (s : State) (m : MaskId) (f : MaskEntry → MaskEntry) (j : PairId) : (s.modMask m f).pair j = s.pair j := rfl
@[simp] theorem modMask_lane (s : State) (m : MaskId) (f : MaskEntry → MaskEntry) (j : LaneId) : (s.modMask m f).lane j = s.lane j := rfl
@[simp] theorem modMask_ring (s : State) (m : MaskId) (f : MaskEntry → MaskEntry) (j : StationId) : (s.modMask m f).ring j = s.ring j := rfl
@[simp] theorem modMask_port (s : State) (m : MaskId) (f : MaskEntry → MaskEntry) (j : StationId) : (s.modMask m f).port j = s.port j := rfl
@[simp] theorem modMask_mask (s : State) (m : MaskId) (f : MaskEntry → MaskEntry) (j : MaskId) :
    (s.modMask m f).mask j = if j = m then f (s.mask m) else s.mask j := updateAt_get _ _ _ _

@[simp] theorem modPair_now (s : State) (p : PairId) (f : Pair → Pair) : (s.modPair p f).now = s.now := rfl
@[simp] theorem modPair_inReset (s : State) (p : PairId) (f : Pair → Pair) : (s.modPair p f).inReset = s.inReset := rfl
@[simp] theorem modPair_lines (s : State) (p : PairId) (f : Pair → Pair) : (s.modPair p f).lines = s.lines := rfl
@[simp] theorem modPair_sockets (s : State) (p : PairId) (f : Pair → Pair) : (s.modPair p f).sockets = s.sockets := rfl
@[simp] theorem modPair_monitor (s : State) (p : PairId) (f : Pair → Pair) : (s.modPair p f).monitor = s.monitor := rfl
@[simp] theorem modPair_masks (s : State) (p : PairId) (f : Pair → Pair) : (s.modPair p f).masks = s.masks := rfl
@[simp] theorem modPair_pool (s : State) (p : PairId) (f : Pair → Pair) : (s.modPair p f).pool = s.pool := rfl
@[simp] theorem modPair_retune (s : State) (p : PairId) (f : Pair → Pair) : (s.modPair p f).retune = s.retune := rfl
@[simp] theorem modPair_pairs (s : State) (p : PairId) (f : Pair → Pair) : (s.modPair p f).pairs = updateAt s.pairs p f := rfl
@[simp] theorem modPair_link (s : State) (p : PairId) (f : Pair → Pair) : (s.modPair p f).link = s.link := rfl
@[simp] theorem modPair_lanes (s : State) (p : PairId) (f : Pair → Pair) : (s.modPair p f).lanes = s.lanes := rfl
@[simp] theorem modPair_rings (s : State) (p : PairId) (f : Pair → Pair) : (s.modPair p f).rings = s.rings := rfl
@[simp] theorem modPair_counters (s : State) (p : PairId) (f : Pair → Pair) : (s.modPair p f).counters = s.counters := rfl
@[simp] theorem modPair_ports (s : State) (p : PairId) (f : Pair → Pair) : (s.modPair p f).ports = s.ports := rfl
@[simp] theorem modPair_pending (s : State) (p : PairId) (f : Pair → Pair) : (s.modPair p f).pending = s.pending := rfl
@[simp] theorem modPair_socket (s : State) (p : PairId) (f : Pair → Pair) (j : SocketId) : (s.modPair p f).socket j = s.socket j := rfl
@[simp] theorem modPair_mask (s : State) (p : PairId) (f : Pair → Pair) (j : MaskId) : (s.modPair p f).mask j = s.mask j := rfl
@[simp] theorem modPair_lane (s : State) (p : PairId) (f : Pair → Pair) (j : LaneId) : (s.modPair p f).lane j = s.lane j := rfl
@[simp] theorem modPair_ring (s : State) (p : PairId) (f : Pair → Pair) (j : StationId) : (s.modPair p f).ring j = s.ring j := rfl
@[simp] theorem modPair_port (s : State) (p : PairId) (f : Pair → Pair) (j : StationId) : (s.modPair p f).port j = s.port j := rfl
@[simp] theorem modPair_pair (s : State) (p : PairId) (f : Pair → Pair) (j : PairId) :
    (s.modPair p f).pair j = if j = p then f (s.pair p) else s.pair j := updateAt_get _ _ _ _

@[simp] theorem modLane_now (s : State) (l : LaneId) (f : Lane → Lane) : (s.modLane l f).now = s.now := rfl
@[simp] theorem modLane_inReset (s : State) (l : LaneId) (f : Lane → Lane) : (s.modLane l f).inReset = s.inReset := rfl
@[simp] theorem modLane_lines (s : State) (l : LaneId) (f : Lane → Lane) : (s.modLane l f).lines = s.lines := rfl
@[simp] theorem modLane_sockets (s : State) (l : LaneId) (f : Lane → Lane) : (s.modLane l f).sockets = s.sockets := rfl
@[simp] theorem modLane_monitor (s : State) (l : LaneId) (f : Lane → Lane) : (s.modLane l f).monitor = s.monitor := rfl
@[simp] theorem modLane_masks (s : State) (l : LaneId) (f : Lane → Lane) : (s.modLane l f).masks = s.masks := rfl
@[simp] theorem modLane_pool (s : State) (l : LaneId) (f : Lane → Lane) : (s.modLane l f).pool = s.pool := rfl
@[simp] theorem modLane_retune (s : State) (l : LaneId) (f : Lane → Lane) : (s.modLane l f).retune = s.retune := rfl
@[simp] theorem modLane_pairs (s : State) (l : LaneId) (f : Lane → Lane) : (s.modLane l f).pairs = s.pairs := rfl
@[simp] theorem modLane_link (s : State) (l : LaneId) (f : Lane → Lane) : (s.modLane l f).link = s.link := rfl
@[simp] theorem modLane_lanes (s : State) (l : LaneId) (f : Lane → Lane) : (s.modLane l f).lanes = updateAt s.lanes l f := rfl
@[simp] theorem modLane_rings (s : State) (l : LaneId) (f : Lane → Lane) : (s.modLane l f).rings = s.rings := rfl
@[simp] theorem modLane_counters (s : State) (l : LaneId) (f : Lane → Lane) : (s.modLane l f).counters = s.counters := rfl
@[simp] theorem modLane_ports (s : State) (l : LaneId) (f : Lane → Lane) : (s.modLane l f).ports = s.ports := rfl
@[simp] theorem modLane_pending (s : State) (l : LaneId) (f : Lane → Lane) : (s.modLane l f).pending = s.pending := rfl
@[simp] theorem modLane_socket (s : State) (l : LaneId) (f : Lane → Lane) (j : SocketId) : (s.modLane l f).socket j = s.socket j := rfl
@[simp] theorem modLane_mask (s : State) (l : LaneId) (f : Lane → Lane) (j : MaskId) : (s.modLane l f).mask j = s.mask j := rfl
@[simp] theorem modLane_pair (s : State) (l : LaneId) (f : Lane → Lane) (j : PairId) : (s.modLane l f).pair j = s.pair j := rfl
@[simp] theorem modLane_ring (s : State) (l : LaneId) (f : Lane → Lane) (j : StationId) : (s.modLane l f).ring j = s.ring j := rfl
@[simp] theorem modLane_port (s : State) (l : LaneId) (f : Lane → Lane) (j : StationId) : (s.modLane l f).port j = s.port j := rfl
@[simp] theorem modLane_lane (s : State) (l : LaneId) (f : Lane → Lane) (j : LaneId) :
    (s.modLane l f).lane j = if j = l then f (s.lane l) else s.lane j := updateAt_get _ _ _ _

@[simp] theorem modRing_now (s : State) (n : StationId) (f : Ring → Ring) : (s.modRing n f).now = s.now := rfl
@[simp] theorem modRing_inReset (s : State) (n : StationId) (f : Ring → Ring) : (s.modRing n f).inReset = s.inReset := rfl
@[simp] theorem modRing_lines (s : State) (n : StationId) (f : Ring → Ring) : (s.modRing n f).lines = s.lines := rfl
@[simp] theorem modRing_sockets (s : State) (n : StationId) (f : Ring → Ring) : (s.modRing n f).sockets = s.sockets := rfl
@[simp] theorem modRing_monitor (s : State) (n : StationId) (f : Ring → Ring) : (s.modRing n f).monitor = s.monitor := rfl
@[simp] theorem modRing_masks (s : State) (n : StationId) (f : Ring → Ring) : (s.modRing n f).masks = s.masks := rfl
@[simp] theorem modRing_pool (s : State) (n : StationId) (f : Ring → Ring) : (s.modRing n f).pool = s.pool := rfl
@[simp] theorem modRing_retune (s : State) (n : StationId) (f : Ring → Ring) : (s.modRing n f).retune = s.retune := rfl
@[simp] theorem modRing_pairs (s : State) (n : StationId) (f : Ring → Ring) : (s.modRing n f).pairs = s.pairs := rfl
@[simp] theorem modRing_link (s : State) (n : StationId) (f : Ring → Ring) : (s.modRing n f).link = s.link := rfl
@[simp] theorem modRing_lanes (s : State) (n : StationId) (f : Ring → Ring) : (s.modRing n f).lanes = s.lanes := rfl
@[simp] theorem modRing_rings (s : State) (n : StationId) (f : Ring → Ring) : (s.modRing n f).rings = updateAt s.rings n f := rfl
@[simp] theorem modRing_counters (s : State) (n : StationId) (f : Ring → Ring) : (s.modRing n f).counters = s.counters := rfl
@[simp] theorem modRing_ports (s : State) (n : StationId) (f : Ring → Ring) : (s.modRing n f).ports = s.ports := rfl
@[simp] theorem modRing_pending (s : State) (n : StationId) (f : Ring → Ring) : (s.modRing n f).pending = s.pending := rfl
@[simp] theorem modRing_socket (s : State) (n : StationId) (f : Ring → Ring) (j : SocketId) : (s.modRing n f).socket j = s.socket j := rfl
@[simp] theorem modRing_mask (s : State) (n : StationId) (f : Ring → Ring) (j : MaskId) : (s.modRing n f).mask j = s.mask j := rfl
@[simp] theorem modRing_pair (s : State) (n : StationId) (f : Ring → Ring) (j : PairId) : (s.modRing n f).pair j = s.pair j := rfl
@[simp] theorem modRing_lane (s : State) (n : StationId) (f : Ring → Ring) (j : LaneId) : (s.modRing n f).lane j = s.lane j := rfl
@[simp] theorem modRing_port (s : State) (n : StationId) (f : Ring → Ring) (j : StationId) : (s.modRing n f).port j = s.port j := rfl
@[simp] theorem modRing_ring (s : State) (n : StationId) (f : Ring → Ring) (j : StationId) :
    (s.modRing n f).ring j = if j = n then f (s.ring n) else s.ring j := updateAt_get _ _ _ _

@[simp] theorem modPort_now (s : State) (n : StationId) (f : Port → Port) : (s.modPort n f).now = s.now := rfl
@[simp] theorem modPort_inReset (s : State) (n : StationId) (f : Port → Port) : (s.modPort n f).inReset = s.inReset := rfl
@[simp] theorem modPort_lines (s : State) (n : StationId) (f : Port → Port) : (s.modPort n f).lines = s.lines := rfl
@[simp] theorem modPort_sockets (s : State) (n : StationId) (f : Port → Port) : (s.modPort n f).sockets = s.sockets := rfl
@[simp] theorem modPort_monitor (s : State) (n : StationId) (f : Port → Port) : (s.modPort n f).monitor = s.monitor := rfl
@[simp] theorem modPort_masks (s : State) (n : StationId) (f : Port → Port) : (s.modPort n f).masks = s.masks := rfl
@[simp] theorem modPort_pool (s : State) (n : StationId) (f : Port → Port) : (s.modPort n f).pool = s.pool := rfl
@[simp] theorem modPort_retune (s : State) (n : StationId) (f : Port → Port) : (s.modPort n f).retune = s.retune := rfl
@[simp] theorem modPort_pairs (s : State) (n : StationId) (f : Port → Port) : (s.modPort n f).pairs = s.pairs := rfl
@[simp] theorem modPort_link (s : State) (n : StationId) (f : Port → Port) : (s.modPort n f).link = s.link := rfl
@[simp] theorem modPort_lanes (s : State) (n : StationId) (f : Port → Port) : (s.modPort n f).lanes = s.lanes := rfl
@[simp] theorem modPort_rings (s : State) (n : StationId) (f : Port → Port) : (s.modPort n f).rings = s.rings := rfl
@[simp] theorem modPort_counters (s : State) (n : StationId) (f : Port → Port) : (s.modPort n f).counters = s.counters := rfl
@[simp] theorem modPort_ports (s : State) (n : StationId) (f : Port → Port) : (s.modPort n f).ports = updateAt s.ports n f := rfl
@[simp] theorem modPort_pending (s : State) (n : StationId) (f : Port → Port) : (s.modPort n f).pending = s.pending := rfl
@[simp] theorem modPort_socket (s : State) (n : StationId) (f : Port → Port) (j : SocketId) : (s.modPort n f).socket j = s.socket j := rfl
@[simp] theorem modPort_mask (s : State) (n : StationId) (f : Port → Port) (j : MaskId) : (s.modPort n f).mask j = s.mask j := rfl
@[simp] theorem modPort_pair (s : State) (n : StationId) (f : Port → Port) (j : PairId) : (s.modPort n f).pair j = s.pair j := rfl
@[simp] theorem modPort_lane (s : State) (n : StationId) (f : Port → Port) (j : LaneId) : (s.modPort n f).lane j = s.lane j := rfl
@[simp] theorem modPort_ring (s : State) (n : StationId) (f : Port → Port) (j : StationId) : (s.modPort n f).ring j = s.ring j := rfl
@[simp] theorem modPort_port (s : State) (n : StationId) (f : Port → Port) (j : StationId) :
    (s.modPort n f).port j = if j = n then f (s.port n) else s.port j := updateAt_get _ _ _ _

@[simp] theorem modPool_now (s : State) (f : Pool → Pool) : (s.modPool f).now = s.now := rfl
@[simp] theorem modPool_inReset (s : State) (f : Pool → Pool) : (s.modPool f).inReset = s.inReset := rfl
@[simp] theorem modPool_lines (s : State) (f : Pool → Pool) : (s.modPool f).lines = s.lines := rfl
@[simp] theorem modPool_sockets (s : State) (f : Pool → Pool) : (s.modPool f).sockets = s.sockets := rfl
@[simp] theorem modPool_monitor (s : State) (f : Pool → Pool) : (s.modPool f).monitor = s.monitor := rfl
@[simp] theorem modPool_masks (s : State) (f : Pool → Pool) : (s.modPool f).masks = s.masks := rfl
@[simp] theorem modPool_pool (s : State) (f : Pool → Pool) : (s.modPool f).pool = f s.pool := rfl
@[simp] theorem modPool_retune (s : State) (f : Pool → Pool) : (s.modPool f).retune = s.retune := rfl
@[simp] theorem modPool_pairs (s : State) (f : Pool → Pool) : (s.modPool f).pairs = s.pairs := rfl
@[simp] theorem modPool_link (s : State) (f : Pool → Pool) : (s.modPool f).link = s.link := rfl
@[simp] theorem modPool_lanes (s : State) (f : Pool → Pool) : (s.modPool f).lanes = s.lanes := rfl
@[simp] theorem modPool_rings (s : State) (f : Pool → Pool) : (s.modPool f).rings = s.rings := rfl
@[simp] theorem modPool_counters (s : State) (f : Pool → Pool) : (s.modPool f).counters = s.counters := rfl
@[simp] theorem modPool_ports (s : State) (f : Pool → Pool) : (s.modPool f).ports = s.ports := rfl
@[simp] theorem modPool_pending (s : State) (f : Pool → Pool) : (s.modPool f).pending = s.pending := rfl
@[simp] theorem modPool_socket (s : State) (f : Pool → Pool) (j : SocketId) : (s.modPool f).socket j = s.socket j := rfl
@[simp] theorem modPool_mask (s : State) (f : Pool → Pool) (j : MaskId) : (s.modPool f).mask j = s.mask j := rfl
@[simp] theorem modPool_pair (s : State) (f : Pool → Pool) (j : PairId) : (s.modPool f).pair j = s.pair j := rfl
@[simp] theorem modPool_lane (s : State) (f : Pool → Pool) (j : LaneId) : (s.modPool f).lane j = s.lane j := rfl
@[simp] theorem modPool_ring (s : State) (f : Pool → Pool) (j : StationId) : (s.modPool f).ring j = s.ring j := rfl
@[simp] theorem modPool_port (s : State) (f : Pool → Pool) (j : StationId) : (s.modPool f).port j = s.port j := rfl

@[simp] theorem modLink_now (s : State) (f : Link → Link) : (s.modLink f).now = s.now := rfl
@[simp] theorem modLink_inReset (s : State) (f : Link → Link) : (s.modLink f).inReset = s.inReset := rfl
@[simp] theorem modLink_lines (s : State) (f : Link → Link) : (s.modLink f).lines = s.lines := rfl
@[simp] theorem modLink_sockets (s : State) (f : Link → Link) : (s.modLink f).sockets = s.sockets := rfl
@[simp] theorem modLink_monitor (s : State) (f : Link → Link) : (s.modLink f).monitor = s.monitor := rfl
@[simp] theorem modLink_masks (s : State) (f : Link → Link) : (s.modLink f).masks = s.masks := rfl
@[simp] theorem modLink_pool (s : State) (f : Link → Link) : (s.modLink f).pool = s.pool := rfl
@[simp] theorem modLink_retune (s : State) (f : Link → Link) : (s.modLink f).retune = s.retune := rfl
@[simp] theorem modLink_pairs (s : State) (f : Link → Link) : (s.modLink f).pairs = s.pairs := rfl
@[simp] theorem modLink_link (s : State) (f : Link → Link) : (s.modLink f).link = f s.link := rfl
@[simp] theorem modLink_lanes (s : State) (f : Link → Link) : (s.modLink f).lanes = s.lanes := rfl
@[simp] theorem modLink_rings (s : State) (f : Link → Link) : (s.modLink f).rings = s.rings := rfl
@[simp] theorem modLink_counters (s : State) (f : Link → Link) : (s.modLink f).counters = s.counters := rfl
@[simp] theorem modLink_ports (s : State) (f : Link → Link) : (s.modLink f).ports = s.ports := rfl
@[simp] theorem modLink_pending (s : State) (f : Link → Link) : (s.modLink f).pending = s.pending := rfl
@[simp] theorem modLink_socket (s : State) (f : Link → Link) (j : SocketId) : (s.modLink f).socket j = s.socket j := rfl
@[simp] theorem modLink_mask (s : State) (f : Link → Link) (j : MaskId) : (s.modLink f).mask j = s.mask j := rfl
@[simp] theorem modLink_pair (s : State) (f : Link → Link) (j : PairId) : (s.modLink f).pair j = s.pair j := rfl
@[simp] theorem modLink_lane (s : State) (f : Link → Link) (j : LaneId) : (s.modLink f).lane j = s.lane j := rfl
@[simp] theorem modLink_ring (s : State) (f : Link → Link) (j : StationId) : (s.modLink f).ring j = s.ring j := rfl
@[simp] theorem modLink_port (s : State) (f : Link → Link) (j : StationId) : (s.modLink f).port j = s.port j := rfl

@[simp] theorem modMonitor_now (s : State) (f : LineMonitor → LineMonitor) : (s.modMonitor f).now = s.now := rfl
@[simp] theorem modMonitor_inReset (s : State) (f : LineMonitor → LineMonitor) : (s.modMonitor f).inReset = s.inReset := rfl
@[simp] theorem modMonitor_lines (s : State) (f : LineMonitor → LineMonitor) : (s.modMonitor f).lines = s.lines := rfl
@[simp] theorem modMonitor_sockets (s : State) (f : LineMonitor → LineMonitor) : (s.modMonitor f).sockets = s.sockets := rfl
@[simp] theorem modMonitor_monitor (s : State) (f : LineMonitor → LineMonitor) : (s.modMonitor f).monitor = f s.monitor := rfl
@[simp] theorem modMonitor_masks (s : State) (f : LineMonitor → LineMonitor) : (s.modMonitor f).masks = s.masks := rfl
@[simp] theorem modMonitor_pool (s : State) (f : LineMonitor → LineMonitor) : (s.modMonitor f).pool = s.pool := rfl
@[simp] theorem modMonitor_retune (s : State) (f : LineMonitor → LineMonitor) : (s.modMonitor f).retune = s.retune := rfl
@[simp] theorem modMonitor_pairs (s : State) (f : LineMonitor → LineMonitor) : (s.modMonitor f).pairs = s.pairs := rfl
@[simp] theorem modMonitor_link (s : State) (f : LineMonitor → LineMonitor) : (s.modMonitor f).link = s.link := rfl
@[simp] theorem modMonitor_lanes (s : State) (f : LineMonitor → LineMonitor) : (s.modMonitor f).lanes = s.lanes := rfl
@[simp] theorem modMonitor_rings (s : State) (f : LineMonitor → LineMonitor) : (s.modMonitor f).rings = s.rings := rfl
@[simp] theorem modMonitor_counters (s : State) (f : LineMonitor → LineMonitor) : (s.modMonitor f).counters = s.counters := rfl
@[simp] theorem modMonitor_ports (s : State) (f : LineMonitor → LineMonitor) : (s.modMonitor f).ports = s.ports := rfl
@[simp] theorem modMonitor_pending (s : State) (f : LineMonitor → LineMonitor) : (s.modMonitor f).pending = s.pending := rfl
@[simp] theorem modMonitor_socket (s : State) (f : LineMonitor → LineMonitor) (j : SocketId) : (s.modMonitor f).socket j = s.socket j := rfl
@[simp] theorem modMonitor_mask (s : State) (f : LineMonitor → LineMonitor) (j : MaskId) : (s.modMonitor f).mask j = s.mask j := rfl
@[simp] theorem modMonitor_pair (s : State) (f : LineMonitor → LineMonitor) (j : PairId) : (s.modMonitor f).pair j = s.pair j := rfl
@[simp] theorem modMonitor_lane (s : State) (f : LineMonitor → LineMonitor) (j : LaneId) : (s.modMonitor f).lane j = s.lane j := rfl
@[simp] theorem modMonitor_ring (s : State) (f : LineMonitor → LineMonitor) (j : StationId) : (s.modMonitor f).ring j = s.ring j := rfl
@[simp] theorem modMonitor_port (s : State) (f : LineMonitor → LineMonitor) (j : StationId) : (s.modMonitor f).port j = s.port j := rfl

@[simp] theorem modLines_now (s : State) (f : Lines → Lines) : (s.modLines f).now = s.now := rfl
@[simp] theorem modLines_inReset (s : State) (f : Lines → Lines) : (s.modLines f).inReset = s.inReset := rfl
@[simp] theorem modLines_lines (s : State) (f : Lines → Lines) : (s.modLines f).lines = f s.lines := rfl
@[simp] theorem modLines_sockets (s : State) (f : Lines → Lines) : (s.modLines f).sockets = s.sockets := rfl
@[simp] theorem modLines_monitor (s : State) (f : Lines → Lines) : (s.modLines f).monitor = s.monitor := rfl
@[simp] theorem modLines_masks (s : State) (f : Lines → Lines) : (s.modLines f).masks = s.masks := rfl
@[simp] theorem modLines_pool (s : State) (f : Lines → Lines) : (s.modLines f).pool = s.pool := rfl
@[simp] theorem modLines_retune (s : State) (f : Lines → Lines) : (s.modLines f).retune = s.retune := rfl
@[simp] theorem modLines_pairs (s : State) (f : Lines → Lines) : (s.modLines f).pairs = s.pairs := rfl
@[simp] theorem modLines_link (s : State) (f : Lines → Lines) : (s.modLines f).link = s.link := rfl
@[simp] theorem modLines_lanes (s : State) (f : Lines → Lines) : (s.modLines f).lanes = s.lanes := rfl
@[simp] theorem modLines_rings (s : State) (f : Lines → Lines) : (s.modLines f).rings = s.rings := rfl
@[simp] theorem modLines_counters (s : State) (f : Lines → Lines) : (s.modLines f).counters = s.counters := rfl
@[simp] theorem modLines_ports (s : State) (f : Lines → Lines) : (s.modLines f).ports = s.ports := rfl
@[simp] theorem modLines_pending (s : State) (f : Lines → Lines) : (s.modLines f).pending = s.pending := rfl
@[simp] theorem modLines_socket (s : State) (f : Lines → Lines) (j : SocketId) : (s.modLines f).socket j = s.socket j := rfl
@[simp] theorem modLines_mask (s : State) (f : Lines → Lines) (j : MaskId) : (s.modLines f).mask j = s.mask j := rfl
@[simp] theorem modLines_pair (s : State) (f : Lines → Lines) (j : PairId) : (s.modLines f).pair j = s.pair j := rfl
@[simp] theorem modLines_lane (s : State) (f : Lines → Lines) (j : LaneId) : (s.modLines f).lane j = s.lane j := rfl
@[simp] theorem modLines_ring (s : State) (f : Lines → Lines) (j : StationId) : (s.modLines f).ring j = s.ring j := rfl
@[simp] theorem modLines_port (s : State) (f : Lines → Lines) (j : StationId) : (s.modLines f).port j = s.port j := rfl

@[simp] theorem modCounters_now (s : State) (f : Counters → Counters) : (s.modCounters f).now = s.now := rfl
@[simp] theorem modCounters_inReset (s : State) (f : Counters → Counters) : (s.modCounters f).inReset = s.inReset := rfl
@[simp] theorem modCounters_lines (s : State) (f : Counters → Counters) : (s.modCounters f).lines = s.lines := rfl
@[simp] theorem modCounters_sockets (s : State) (f : Counters → Counters) : (s.modCounters f).sockets = s.sockets := rfl
@[simp] theorem modCounters_monitor (s : State) (f : Counters → Counters) : (s.modCounters f).monitor = s.monitor := rfl
@[simp] theorem modCounters_masks (s : State) (f : Counters → Counters) : (s.modCounters f).masks = s.masks := rfl
@[simp] theorem modCounters_pool (s : State) (f : Counters → Counters) : (s.modCounters f).pool = s.pool := rfl
@[simp] theorem modCounters_retune (s : State) (f : Counters → Counters) : (s.modCounters f).retune = s.retune := rfl
@[simp] theorem modCounters_pairs (s : State) (f : Counters → Counters) : (s.modCounters f).pairs = s.pairs := rfl
@[simp] theorem modCounters_link (s : State) (f : Counters → Counters) : (s.modCounters f).link = s.link := rfl
@[simp] theorem modCounters_lanes (s : State) (f : Counters → Counters) : (s.modCounters f).lanes = s.lanes := rfl
@[simp] theorem modCounters_rings (s : State) (f : Counters → Counters) : (s.modCounters f).rings = s.rings := rfl
@[simp] theorem modCounters_counters (s : State) (f : Counters → Counters) : (s.modCounters f).counters = f s.counters := rfl
@[simp] theorem modCounters_ports (s : State) (f : Counters → Counters) : (s.modCounters f).ports = s.ports := rfl
@[simp] theorem modCounters_pending (s : State) (f : Counters → Counters) : (s.modCounters f).pending = s.pending := rfl
@[simp] theorem modCounters_socket (s : State) (f : Counters → Counters) (j : SocketId) : (s.modCounters f).socket j = s.socket j := rfl
@[simp] theorem modCounters_mask (s : State) (f : Counters → Counters) (j : MaskId) : (s.modCounters f).mask j = s.mask j := rfl
@[simp] theorem modCounters_pair (s : State) (f : Counters → Counters) (j : PairId) : (s.modCounters f).pair j = s.pair j := rfl
@[simp] theorem modCounters_lane (s : State) (f : Counters → Counters) (j : LaneId) : (s.modCounters f).lane j = s.lane j := rfl
@[simp] theorem modCounters_ring (s : State) (f : Counters → Counters) (j : StationId) : (s.modCounters f).ring j = s.ring j := rfl
@[simp] theorem modCounters_port (s : State) (f : Counters → Counters) (j : StationId) : (s.modCounters f).port j = s.port j := rfl

@[simp] theorem setRetune_now (s : State) (p : PairId) (r : Option RequestRef) : (s.setRetune p r).now = s.now := rfl
@[simp] theorem setRetune_inReset (s : State) (p : PairId) (r : Option RequestRef) : (s.setRetune p r).inReset = s.inReset := rfl
@[simp] theorem setRetune_lines (s : State) (p : PairId) (r : Option RequestRef) : (s.setRetune p r).lines = s.lines := rfl
@[simp] theorem setRetune_sockets (s : State) (p : PairId) (r : Option RequestRef) : (s.setRetune p r).sockets = s.sockets := rfl
@[simp] theorem setRetune_monitor (s : State) (p : PairId) (r : Option RequestRef) : (s.setRetune p r).monitor = s.monitor := rfl
@[simp] theorem setRetune_masks (s : State) (p : PairId) (r : Option RequestRef) : (s.setRetune p r).masks = s.masks := rfl
@[simp] theorem setRetune_pool (s : State) (p : PairId) (r : Option RequestRef) : (s.setRetune p r).pool = s.pool := rfl
@[simp] theorem setRetune_retune (s : State) (p : PairId) (r : Option RequestRef) : (s.setRetune p r).retune = s.retune.set p r := rfl
@[simp] theorem setRetune_pairs (s : State) (p : PairId) (r : Option RequestRef) : (s.setRetune p r).pairs = s.pairs := rfl
@[simp] theorem setRetune_link (s : State) (p : PairId) (r : Option RequestRef) : (s.setRetune p r).link = s.link := rfl
@[simp] theorem setRetune_lanes (s : State) (p : PairId) (r : Option RequestRef) : (s.setRetune p r).lanes = s.lanes := rfl
@[simp] theorem setRetune_rings (s : State) (p : PairId) (r : Option RequestRef) : (s.setRetune p r).rings = s.rings := rfl
@[simp] theorem setRetune_counters (s : State) (p : PairId) (r : Option RequestRef) : (s.setRetune p r).counters = s.counters := rfl
@[simp] theorem setRetune_ports (s : State) (p : PairId) (r : Option RequestRef) : (s.setRetune p r).ports = s.ports := rfl
@[simp] theorem setRetune_pending (s : State) (p : PairId) (r : Option RequestRef) : (s.setRetune p r).pending = s.pending := rfl
@[simp] theorem setRetune_socket (s : State) (p : PairId) (r : Option RequestRef) (j : SocketId) : (s.setRetune p r).socket j = s.socket j := rfl
@[simp] theorem setRetune_mask (s : State) (p : PairId) (r : Option RequestRef) (j : MaskId) : (s.setRetune p r).mask j = s.mask j := rfl
@[simp] theorem setRetune_pair (s : State) (p : PairId) (r : Option RequestRef) (j : PairId) : (s.setRetune p r).pair j = s.pair j := rfl
@[simp] theorem setRetune_lane (s : State) (p : PairId) (r : Option RequestRef) (j : LaneId) : (s.setRetune p r).lane j = s.lane j := rfl
@[simp] theorem setRetune_ring (s : State) (p : PairId) (r : Option RequestRef) (j : StationId) : (s.setRetune p r).ring j = s.ring j := rfl
@[simp] theorem setRetune_port (s : State) (p : PairId) (r : Option RequestRef) (j : StationId) : (s.setRetune p r).port j = s.port j := rfl

@[simp] theorem reach_now (s : State) (t : Nat) : (s.reach t).now = max s.now t := rfl
@[simp] theorem reach_inReset (s : State) (t : Nat) : (s.reach t).inReset = s.inReset := rfl
@[simp] theorem reach_lines (s : State) (t : Nat) : (s.reach t).lines = s.lines := rfl
@[simp] theorem reach_sockets (s : State) (t : Nat) : (s.reach t).sockets = s.sockets := rfl
@[simp] theorem reach_monitor (s : State) (t : Nat) : (s.reach t).monitor = s.monitor := rfl
@[simp] theorem reach_masks (s : State) (t : Nat) : (s.reach t).masks = s.masks := rfl
@[simp] theorem reach_pool (s : State) (t : Nat) : (s.reach t).pool = s.pool := rfl
@[simp] theorem reach_retune (s : State) (t : Nat) : (s.reach t).retune = s.retune := rfl
@[simp] theorem reach_pairs (s : State) (t : Nat) : (s.reach t).pairs = s.pairs := rfl
@[simp] theorem reach_link (s : State) (t : Nat) : (s.reach t).link = s.link := rfl
@[simp] theorem reach_lanes (s : State) (t : Nat) : (s.reach t).lanes = s.lanes := rfl
@[simp] theorem reach_rings (s : State) (t : Nat) : (s.reach t).rings = s.rings := rfl
@[simp] theorem reach_counters (s : State) (t : Nat) : (s.reach t).counters = s.counters := rfl
@[simp] theorem reach_ports (s : State) (t : Nat) : (s.reach t).ports = s.ports := rfl
@[simp] theorem reach_pending (s : State) (t : Nat) : (s.reach t).pending = s.pending := rfl
@[simp] theorem reach_socket (s : State) (t : Nat) (j : SocketId) : (s.reach t).socket j = s.socket j := rfl
@[simp] theorem reach_mask (s : State) (t : Nat) (j : MaskId) : (s.reach t).mask j = s.mask j := rfl
@[simp] theorem reach_pair (s : State) (t : Nat) (j : PairId) : (s.reach t).pair j = s.pair j := rfl
@[simp] theorem reach_lane (s : State) (t : Nat) (j : LaneId) : (s.reach t).lane j = s.lane j := rfl
@[simp] theorem reach_ring (s : State) (t : Nat) (j : StationId) : (s.reach t).ring j = s.ring j := rfl
@[simp] theorem reach_port (s : State) (t : Nat) (j : StationId) : (s.reach t).port j = s.port j := rfl

@[simp] theorem reachStamp_now (s : State) (x : Stamp) : (s.reachStamp x).now = s.now + (x - s.stamp).toNat := rfl
@[simp] theorem reachStamp_inReset (s : State) (x : Stamp) : (s.reachStamp x).inReset = s.inReset := rfl
@[simp] theorem reachStamp_lines (s : State) (x : Stamp) : (s.reachStamp x).lines = s.lines := rfl
@[simp] theorem reachStamp_sockets (s : State) (x : Stamp) : (s.reachStamp x).sockets = s.sockets := rfl
@[simp] theorem reachStamp_monitor (s : State) (x : Stamp) : (s.reachStamp x).monitor = s.monitor := rfl
@[simp] theorem reachStamp_masks (s : State) (x : Stamp) : (s.reachStamp x).masks = s.masks := rfl
@[simp] theorem reachStamp_pool (s : State) (x : Stamp) : (s.reachStamp x).pool = s.pool := rfl
@[simp] theorem reachStamp_retune (s : State) (x : Stamp) : (s.reachStamp x).retune = s.retune := rfl
@[simp] theorem reachStamp_pairs (s : State) (x : Stamp) : (s.reachStamp x).pairs = s.pairs := rfl
@[simp] theorem reachStamp_link (s : State) (x : Stamp) : (s.reachStamp x).link = s.link := rfl
@[simp] theorem reachStamp_lanes (s : State) (x : Stamp) : (s.reachStamp x).lanes = s.lanes := rfl
@[simp] theorem reachStamp_rings (s : State) (x : Stamp) : (s.reachStamp x).rings = s.rings := rfl
@[simp] theorem reachStamp_counters (s : State) (x : Stamp) : (s.reachStamp x).counters = s.counters := rfl
@[simp] theorem reachStamp_ports (s : State) (x : Stamp) : (s.reachStamp x).ports = s.ports := rfl
@[simp] theorem reachStamp_pending (s : State) (x : Stamp) : (s.reachStamp x).pending = s.pending := rfl
@[simp] theorem reachStamp_socket (s : State) (x : Stamp) (j : SocketId) : (s.reachStamp x).socket j = s.socket j := rfl
@[simp] theorem reachStamp_mask (s : State) (x : Stamp) (j : MaskId) : (s.reachStamp x).mask j = s.mask j := rfl
@[simp] theorem reachStamp_pair (s : State) (x : Stamp) (j : PairId) : (s.reachStamp x).pair j = s.pair j := rfl
@[simp] theorem reachStamp_lane (s : State) (x : Stamp) (j : LaneId) : (s.reachStamp x).lane j = s.lane j := rfl
@[simp] theorem reachStamp_ring (s : State) (x : Stamp) (j : StationId) : (s.reachStamp x).ring j = s.ring j := rfl
@[simp] theorem reachStamp_port (s : State) (x : Stamp) (j : StationId) : (s.reachStamp x).port j = s.port j := rfl

@[simp] theorem tick_now (s : State) : (s.tick).now = s.now + 1 := rfl
@[simp] theorem tick_inReset (s : State) : (s.tick).inReset = s.inReset := rfl
@[simp] theorem tick_lines (s : State) : (s.tick).lines = s.lines := rfl
@[simp] theorem tick_sockets (s : State) : (s.tick).sockets = s.sockets := rfl
@[simp] theorem tick_monitor (s : State) : (s.tick).monitor = s.monitor := rfl
@[simp] theorem tick_masks (s : State) : (s.tick).masks = s.masks := rfl
@[simp] theorem tick_pool (s : State) : (s.tick).pool = s.pool := rfl
@[simp] theorem tick_retune (s : State) : (s.tick).retune = s.retune := rfl
@[simp] theorem tick_pairs (s : State) : (s.tick).pairs = s.pairs := rfl
@[simp] theorem tick_link (s : State) : (s.tick).link = s.link := rfl
@[simp] theorem tick_lanes (s : State) : (s.tick).lanes = s.lanes := rfl
@[simp] theorem tick_rings (s : State) : (s.tick).rings = s.rings := rfl
@[simp] theorem tick_counters (s : State) : (s.tick).counters = s.counters := rfl
@[simp] theorem tick_ports (s : State) : (s.tick).ports = s.ports := rfl
@[simp] theorem tick_pending (s : State) : (s.tick).pending = s.pending := rfl
@[simp] theorem tick_socket (s : State) (j : SocketId) : (s.tick).socket j = s.socket j := rfl
@[simp] theorem tick_mask (s : State) (j : MaskId) : (s.tick).mask j = s.mask j := rfl
@[simp] theorem tick_pair (s : State) (j : PairId) : (s.tick).pair j = s.pair j := rfl
@[simp] theorem tick_lane (s : State) (j : LaneId) : (s.tick).lane j = s.lane j := rfl
@[simp] theorem tick_ring (s : State) (j : StationId) : (s.tick).ring j = s.ring j := rfl
@[simp] theorem tick_port (s : State) (j : StationId) : (s.tick).port j = s.port j := rfl

@[simp] theorem latch_now (s : State) (n : StationId) (f : Latched → Latched) : (s.latch n f).now = s.now := rfl
@[simp] theorem latch_inReset (s : State) (n : StationId) (f : Latched → Latched) : (s.latch n f).inReset = s.inReset := rfl
@[simp] theorem latch_lines (s : State) (n : StationId) (f : Latched → Latched) : (s.latch n f).lines = s.lines := rfl
@[simp] theorem latch_sockets (s : State) (n : StationId) (f : Latched → Latched) : (s.latch n f).sockets = s.sockets := rfl
@[simp] theorem latch_monitor (s : State) (n : StationId) (f : Latched → Latched) : (s.latch n f).monitor = s.monitor := rfl
@[simp] theorem latch_masks (s : State) (n : StationId) (f : Latched → Latched) : (s.latch n f).masks = s.masks := rfl
@[simp] theorem latch_pool (s : State) (n : StationId) (f : Latched → Latched) : (s.latch n f).pool = s.pool := rfl
@[simp] theorem latch_retune (s : State) (n : StationId) (f : Latched → Latched) : (s.latch n f).retune = s.retune := rfl
@[simp] theorem latch_pairs (s : State) (n : StationId) (f : Latched → Latched) : (s.latch n f).pairs = s.pairs := rfl
@[simp] theorem latch_link (s : State) (n : StationId) (f : Latched → Latched) : (s.latch n f).link = s.link := rfl
@[simp] theorem latch_lanes (s : State) (n : StationId) (f : Latched → Latched) : (s.latch n f).lanes = s.lanes := rfl
@[simp] theorem latch_rings (s : State) (n : StationId) (f : Latched → Latched) : (s.latch n f).rings = s.rings := rfl
@[simp] theorem latch_counters (s : State) (n : StationId) (f : Latched → Latched) : (s.latch n f).counters = s.counters := rfl
@[simp] theorem latch_pending (s : State) (n : StationId) (f : Latched → Latched) : (s.latch n f).pending = s.pending := rfl
@[simp] theorem latch_socket (s : State) (n : StationId) (f : Latched → Latched) (j : SocketId) : (s.latch n f).socket j = s.socket j := rfl
@[simp] theorem latch_mask (s : State) (n : StationId) (f : Latched → Latched) (j : MaskId) : (s.latch n f).mask j = s.mask j := rfl
@[simp] theorem latch_pair (s : State) (n : StationId) (f : Latched → Latched) (j : PairId) : (s.latch n f).pair j = s.pair j := rfl
@[simp] theorem latch_lane (s : State) (n : StationId) (f : Latched → Latched) (j : LaneId) : (s.latch n f).lane j = s.lane j := rfl
@[simp] theorem latch_ring (s : State) (n : StationId) (f : Latched → Latched) (j : StationId) : (s.latch n f).ring j = s.ring j := rfl

@[simp] theorem latchAll_now (s : State) (f : Latched → Latched) : (s.latchAll f).now = s.now := rfl
@[simp] theorem latchAll_inReset (s : State) (f : Latched → Latched) : (s.latchAll f).inReset = s.inReset := rfl
@[simp] theorem latchAll_lines (s : State) (f : Latched → Latched) : (s.latchAll f).lines = s.lines := rfl
@[simp] theorem latchAll_sockets (s : State) (f : Latched → Latched) : (s.latchAll f).sockets = s.sockets := rfl
@[simp] theorem latchAll_monitor (s : State) (f : Latched → Latched) : (s.latchAll f).monitor = s.monitor := rfl
@[simp] theorem latchAll_masks (s : State) (f : Latched → Latched) : (s.latchAll f).masks = s.masks := rfl
@[simp] theorem latchAll_pool (s : State) (f : Latched → Latched) : (s.latchAll f).pool = s.pool := rfl
@[simp] theorem latchAll_retune (s : State) (f : Latched → Latched) : (s.latchAll f).retune = s.retune := rfl
@[simp] theorem latchAll_pairs (s : State) (f : Latched → Latched) : (s.latchAll f).pairs = s.pairs := rfl
@[simp] theorem latchAll_link (s : State) (f : Latched → Latched) : (s.latchAll f).link = s.link := rfl
@[simp] theorem latchAll_lanes (s : State) (f : Latched → Latched) : (s.latchAll f).lanes = s.lanes := rfl
@[simp] theorem latchAll_rings (s : State) (f : Latched → Latched) : (s.latchAll f).rings = s.rings := rfl
@[simp] theorem latchAll_counters (s : State) (f : Latched → Latched) : (s.latchAll f).counters = s.counters := rfl
@[simp] theorem latchAll_pending (s : State) (f : Latched → Latched) : (s.latchAll f).pending = s.pending := rfl
@[simp] theorem latchAll_socket (s : State) (f : Latched → Latched) (j : SocketId) : (s.latchAll f).socket j = s.socket j := rfl
@[simp] theorem latchAll_mask (s : State) (f : Latched → Latched) (j : MaskId) : (s.latchAll f).mask j = s.mask j := rfl
@[simp] theorem latchAll_pair (s : State) (f : Latched → Latched) (j : PairId) : (s.latchAll f).pair j = s.pair j := rfl
@[simp] theorem latchAll_lane (s : State) (f : Latched → Latched) (j : LaneId) : (s.latchAll f).lane j = s.lane j := rfl
@[simp] theorem latchAll_ring (s : State) (f : Latched → Latched) (j : StationId) : (s.latchAll f).ring j = s.ring j := rfl

@[simp] theorem answerAt_now (s : State) (n : StationId) (a : Answer) : (s.answerAt n a).now = s.now := rfl
@[simp] theorem answerAt_inReset (s : State) (n : StationId) (a : Answer) : (s.answerAt n a).inReset = s.inReset := rfl
@[simp] theorem answerAt_lines (s : State) (n : StationId) (a : Answer) : (s.answerAt n a).lines = s.lines := rfl
@[simp] theorem answerAt_sockets (s : State) (n : StationId) (a : Answer) : (s.answerAt n a).sockets = s.sockets := rfl
@[simp] theorem answerAt_monitor (s : State) (n : StationId) (a : Answer) : (s.answerAt n a).monitor = s.monitor := rfl
@[simp] theorem answerAt_masks (s : State) (n : StationId) (a : Answer) : (s.answerAt n a).masks = s.masks := rfl
@[simp] theorem answerAt_pool (s : State) (n : StationId) (a : Answer) : (s.answerAt n a).pool = s.pool := rfl
@[simp] theorem answerAt_retune (s : State) (n : StationId) (a : Answer) : (s.answerAt n a).retune = s.retune := rfl
@[simp] theorem answerAt_pairs (s : State) (n : StationId) (a : Answer) : (s.answerAt n a).pairs = s.pairs := rfl
@[simp] theorem answerAt_link (s : State) (n : StationId) (a : Answer) : (s.answerAt n a).link = s.link := rfl
@[simp] theorem answerAt_lanes (s : State) (n : StationId) (a : Answer) : (s.answerAt n a).lanes = s.lanes := rfl
@[simp] theorem answerAt_rings (s : State) (n : StationId) (a : Answer) : (s.answerAt n a).rings = s.rings := rfl
@[simp] theorem answerAt_counters (s : State) (n : StationId) (a : Answer) : (s.answerAt n a).counters = s.counters := rfl
@[simp] theorem answerAt_pending (s : State) (n : StationId) (a : Answer) : (s.answerAt n a).pending = s.pending := rfl
@[simp] theorem answerAt_socket (s : State) (n : StationId) (a : Answer) (j : SocketId) : (s.answerAt n a).socket j = s.socket j := rfl
@[simp] theorem answerAt_mask (s : State) (n : StationId) (a : Answer) (j : MaskId) : (s.answerAt n a).mask j = s.mask j := rfl
@[simp] theorem answerAt_pair (s : State) (n : StationId) (a : Answer) (j : PairId) : (s.answerAt n a).pair j = s.pair j := rfl
@[simp] theorem answerAt_lane (s : State) (n : StationId) (a : Answer) (j : LaneId) : (s.answerAt n a).lane j = s.lane j := rfl
@[simp] theorem answerAt_ring (s : State) (n : StationId) (a : Answer) (j : StationId) : (s.answerAt n a).ring j = s.ring j := rfl

@[simp] theorem latch_port (s : State) (n : StationId) (f : Latched → Latched) (j : StationId) :
    (s.latch n f).port j = if j = n then { s.port n with latched := f (s.port n).latched } else s.port j :=
  updateAt_get _ _ _ _

@[simp] theorem latchAll_port (s : State) (f : Latched → Latched) (j : StationId) :
    (s.latchAll f).port j = { s.port j with latched := f (s.port j).latched } := by
  simp [State.latchAll, State.port]

@[simp] theorem answerAt_port (s : State) (n : StationId) (a : Answer) (j : StationId) :
    (s.answerAt n a).port j =
      if j = n then { s.port n with transaction := .answering, answer := some a } else s.port j :=
  updateAt_get _ _ _ _

@[simp] theorem select_eq (s : State) (n : StationId) (high : Bool) :
    s.select n high = s.modLines fun x => { x with csn := x.csn.set n high } := rfl

@[simp] theorem setSrstn_eq (s : State) (n : StationId) (high : Bool) :
    s.setSrstn n high = s.modLines fun x => { x with srstn := x.srstn.set n high } := rfl

end Sys2Proof.Machine
end

