-- ==== Sys2Proof/Laws/Cascade.lean ====
section
/-!
SUPPORT. What the blocks' own work inside a step can change: `Cascade s t` says once what the arbiter, the planner, the
run-end actions and the lanes leave alone, whatever else they do. One lemma per shared operation.
-/
namespace Sys2Proof.Machine

/-- The fields of a socket that only its own commands and events change. -/
def Socket.fixed (k : Socket) : Presence × Option Nat × Word16 × Bool × Bool × Option StationId × Supply × Nat × Nat ×
    BitVec 12 :=
  (k.presence, k.debounce, k.loadGen, k.rose, k.fell, k.owner, k.supply, k.poweredFor, k.secondEnd, k.efcCode)

/-- The fields of a port that only its own commands and events change: all but the latched notices. -/
def Port.fixed (p : Port) : Port := { p with latched := Latched.empty }

/-- The settings of the counter block. -/
def Counters.settings (c : Counters) : Bool × Bool × Bool := (c.freeze, c.saturate, c.resetOnRead)

/-- The contents and version of a mask. -/
def MaskEntry.text (e : MaskEntry) : Option Mask × BitVec 8 := (e.contents, e.version)

/-- From s to t only what the blocks' own work may change has changed, and the ring and pair laws are kept. -/
structure Cascade (s t : State) : Prop where
  now : t.now = s.now
  inReset : t.inReset = s.inReset
  lines : t.lines = s.lines
  monitor : t.monitor = s.monitor
  pending : t.pending = s.pending
  socket : ∀ k, (t.socket k).fixed = (s.socket k).fixed
  mask : ∀ m, (t.mask m).text = (s.mask m).text
  requests : t.pool.requests.Sublist s.pool.requests
  nextSeq : t.pool.nextSeq = s.pool.nextSeq
  port : ∀ n, (t.port n).fixed = (s.port n).fixed
  settings : t.counters.settings = s.counters.settings
  rings : s.ringsFit → t.ringsFit
  pairs : s.pairsLawful → t.pairsLawful

namespace Cascade

theorem refl (s : State) : Cascade s s :=
  ⟨rfl, rfl, rfl, rfl, rfl, fun _ => rfl, fun _ => rfl, List.Sublist.refl _, rfl, fun _ => rfl, rfl, id, id⟩

theorem trans {s t u : State} (a : Cascade s t) (b : Cascade t u) : Cascade s u where
  now := b.now.trans a.now
  inReset := b.inReset.trans a.inReset
  lines := b.lines.trans a.lines
  monitor := b.monitor.trans a.monitor
  pending := b.pending.trans a.pending
  socket k := (b.socket k).trans (a.socket k)
  mask m := (b.mask m).trans (a.mask m)
  requests := b.requests.trans a.requests
  nextSeq := b.nextSeq.trans a.nextSeq
  port n := (b.port n).trans (a.port n)
  settings := b.settings.trans a.settings
  rings h := b.rings (a.rings h)
  pairs h := b.pairs (a.pairs h)

/-! ## The primitive changes -/

theorem modSocket (s : State) (k : SocketId) (f : Socket → Socket) (h : ∀ x, (f x).fixed = x.fixed) :
    Cascade s (s.modSocket k f) :=
  { refl s with
    socket := fun j => by
      by_cases e : j = k
      · subst e; simp [h]
      · simp [e] }

theorem modMask (s : State) (m : MaskId) (f : MaskEntry → MaskEntry) (h : ∀ x, (f x).text = x.text) :
    Cascade s (s.modMask m f) :=
  { refl s with
    mask := fun j => by
      by_cases e : j = m
      · subst e; simp [h]
      · simp [e] }

theorem modPair (s : State) (p : PairId) (f : Pair → Pair) (h : (s.pair p).lawful → (f (s.pair p)).lawful) :
    Cascade s (s.modPair p f) :=
  { refl s with
    pairs := fun w j => by
      by_cases e : j = p
      · subst e; simpa using h (w j)
      · simpa [e] using w j }

theorem modLane (s : State) (l : LaneId) (f : Lane → Lane) : Cascade s (s.modLane l f) := { refl s with }

theorem setLanes (s : State) (v : Vector Lane 4) : Cascade s { s with lanes := v } := { refl s with }

theorem modLink (s : State) (f : Link → Link) : Cascade s (s.modLink f) := { refl s with }

theorem setRetune (s : State) (p : PairId) (r : Option RequestRef) : Cascade s (s.setRetune p r) := { refl s with }

theorem modPool (s : State) (f : Pool → Pool) (h : (f s.pool).requests.Sublist s.pool.requests)
    (g : (f s.pool).nextSeq = s.pool.nextSeq) : Cascade s (s.modPool f) :=
  { refl s with requests := h, nextSeq := g }

theorem modCounters (s : State) (f : Counters → Counters) (h : (f s.counters).settings = s.counters.settings) :
    Cascade s (s.modCounters f) := { refl s with settings := h }

theorem latchAll (s : State) (f : Latched → Latched) : Cascade s (s.latchAll f) :=
  { refl s with port := fun j => by simp [Port.fixed] }

theorem latch (s : State) (n : StationId) (f : Latched → Latched) : Cascade s (s.latch n f) :=
  { refl s with
    port := fun j => by
      by_cases e : j = n
      · subst e; simp [Port.fixed]
      · simp [e] }

theorem noticeSocket (s : State) (o : Option StationId) : Cascade s (s.noticeSocket o) := by
  cases o with
  | none => exact refl s
  | some n => exact latch s n fun l => { l with socket := true }

theorem setRings (s : State) (v : Vector Ring 4) (h : s.ringsFit → ∀ n : StationId, (v[n]).used ≤ 512) :
    Cascade s { s with rings := v } := { refl s with rings := h }

theorem foldl {α : Type} (g : State → α → State) (h : ∀ s a, Cascade s (g s a)) (as : List α) (s : State) :
    Cascade s (as.foldl g s) := by
  induction as generalizing s with
  | nil => exact refl s
  | cons a as ih => exact (h s a).trans (ih _)

/-! ## The same, after work already done -/

section
variable {s t : State} (a : Cascade s t)
include a

theorem andSocket {k : SocketId} {f : Socket → Socket} (h : ∀ x, (f x).fixed = x.fixed) :
    Cascade s (t.modSocket k f) := a.trans (modSocket t k f h)

theorem andMask {m : MaskId} {f : MaskEntry → MaskEntry} (h : ∀ x, (f x).text = x.text) :
    Cascade s (t.modMask m f) := a.trans (modMask t m f h)

theorem andLane {l : LaneId} {f : Lane → Lane} : Cascade s (t.modLane l f) := a.trans (modLane t l f)

theorem andLink {f : Link → Link} : Cascade s (t.modLink f) := a.trans (modLink t f)

theorem andRetune {p : PairId} {r : Option RequestRef} : Cascade s (t.setRetune p r) := a.trans (setRetune t p r)

theorem andPair {p : PairId} {f : Pair → Pair} (h : (t.pair p).lawful → (f (t.pair p)).lawful) :
    Cascade s (t.modPair p f) := a.trans (modPair t p f h)

theorem andPool {f : Pool → Pool} (h : (f t.pool).requests.Sublist t.pool.requests)
    (g : (f t.pool).nextSeq = t.pool.nextSeq) : Cascade s (t.modPool f) := a.trans (modPool t f h g)

theorem andLatchAll {f : Latched → Latched} : Cascade s (t.latchAll f) := a.trans (latchAll t f)

end

end Cascade

/-! ## Counters and rings -/

theorem bumpYield_cascade (s : State) (k : SocketId) (i : Fin 6) : Cascade s (bumpYield s k i) := by
  unfold bumpYield
  split
  · split
    · exact (Cascade.modCounters s _ rfl).trans (Cascade.latchAll _ _)
    · exact Cascade.modCounters s _ rfl
  · exact Cascade.refl s

theorem used_reserve (r : Ring) (e : RingEntry) : (r.reserve e).used = r.used + e.size := by
  simp [Ring.reserve, Ring.used]

theorem commitEntries_sizes (run : RequestRef) (rec : Record) (es : List RingEntry) :
    (commitEntries run rec es).map RingEntry.size = es.map RingEntry.size := by
  induction es with
  | nil => rfl
  | cons e es ih => unfold commitEntries; split <;> simp [ih]

theorem used_commit (r : Ring) (run : RequestRef) (rec : Record) : (r.commit run rec).used = r.used := by
  simp [Ring.commit, Ring.used, commitEntries_sizes]

theorem reserveAll_cascade (s : State) (q : Request) (m : Mask) (pair : Option PairId) :
    Cascade s (reserveAll s q m pair) :=
  Cascade.setRings s _ fun h n => by
    have hn := h n
    by_cases e : (reservedIn s q m)[n] = true
    · have e' := e
      simp only [reservedIn, Fin.getElem_fin, Vector.getElem_ofFn, Bool.and_eq_true, Ring.hasRoom,
        Config.ringWords] at e'
      simp only [Fin.getElem_fin, Vector.getElem_ofFn] at e ⊢
      rw [if_pos e, used_reserve]
      exact of_decide_eq_true e'.2
    · simp only [Fin.getElem_fin, Vector.getElem_ofFn] at e ⊢
      rw [if_neg e]
      exact hn

theorem commitAll_cascade (s : State) (c : RunContext) : Cascade s (commitAll s c) :=
  Cascade.setRings s _ fun h n => by
    have hn := h n
    simp only [Fin.getElem_fin, Vector.getElem_ofFn]
    split
    · rw [used_commit]; exact hn
    · exact hn

/-! ## Pairs and the planner -/

theorem grantTo_cascade (s : State) (p : PairId) : Cascade s (grantTo s p) := by
  unfold grantTo
  split
  · exact Cascade.refl s
  · exact (Cascade.modPair s p _ id).trans (Cascade.modLink _ _)

theorem linkGrant_cascade (s : State) : Cascade s (linkGrant s) := by
  unfold linkGrant
  split
  · exact Cascade.refl s
  · split
    · exact Cascade.refl s
    · exact grantTo_cascade s _

theorem Pair.tune_lawful (id : PairId) (f : Nat) (p : Pair) (h : p.lawful) : (Pair.tune id f p).lawful :=
  ⟨rfl, .inl (Nat.zero_le 2), h.2.2⟩

theorem acceptTuning_cascade (s : State) (p : PairId) (f : Nat) : Cascade s (acceptTuning s p f) :=
  (Cascade.modPair s p _ (Pair.tune_lawful p f _)).trans (linkGrant_cascade _)

theorem plannerLoop_cascade (fuel : Nat) (taken : List Nat) (s : State) :
    Cascade s (plannerLoop fuel taken s) := by
  induction fuel generalizing taken s with
  | zero => exact Cascade.refl s
  | succ n ih =>
    unfold plannerLoop
    split
    · exact Cascade.refl s
    · split
      · exact Cascade.refl s
      · split
        · exact ih _ _
        · exact ((Cascade.setRetune s _ _).trans (acceptTuning_cascade _ _ _)).trans (ih _ _)

theorem plannerPass_cascade (s : State) : Cascade s (plannerPass s) := plannerLoop_cascade _ _ _

theorem plannerIfFree_cascade (s : State) (p : PairId) : Cascade s (plannerIfFree s p) := by
  unfold plannerIfFree
  split
  · exact plannerPass_cascade s
  · exact Cascade.refl s

theorem attach_cascade (s : State) (p : Option PairId) : Cascade s (attach s p) := by
  cases p with
  | none => exact Cascade.refl s
  | some p => exact Cascade.modPair s p _ id

theorem detach_cascade (s : State) (p : Option PairId) : Cascade s (detach s p) := by
  cases p with
  | none => exact Cascade.refl s
  | some p => exact (Cascade.modPair s p _ id).trans (plannerIfFree_cascade _ p)

/-! ## The pool -/

theorem leavePool_cascade (s : State) (q : Request) : Cascade s (leavePool s q) := by
  unfold leavePool
  refine Cascade.andSocket (Cascade.andMask (Cascade.andPool (Cascade.refl s) ?_ ?_) ?_) ?_
  · exact List.filter_sublist
  all_goals first | rfl | exact fun _ => rfl

/-! ## Lanes -/

theorem startEtu_cascade (s : State) (l : LaneId) (c : RunContext) : Cascade s (startEtu s l c) := Cascade.modLane s l _

theorem startEdge_cascade (s : State) (l : LaneId) (c : RunContext) : Cascade s (startEdge s l c) := by
  unfold startEdge
  split
  · refine Cascade.andLane (Cascade.andSocket (Cascade.refl s) ?_)
    exact fun _ => rfl
  · exact (Cascade.refl s).andLane.trans (startEtu_cascade _ _ _)

theorem comeToStart_cascade (s : State) (l : LaneId) (start : PendingStart) : Cascade s (comeToStart s l start) := by
  unfold comeToStart
  split
  · exact Cascade.refl s
  · split
    · cases start
      · exact Cascade.refl s
      · exact startEdge_cascade s l _
      · exact Cascade.modLane s l _
      · exact Cascade.modLane s l _
    · exact Cascade.modLane s l _

theorem dispatch_cascade (s : State) (q : Request) (m : Mask) (l : LaneId) : Cascade s (dispatch s q m l) := by
  unfold dispatch
  dsimp only
  refine Cascade.trans ?_ (comeToStart_cascade _ _ _)
  refine Cascade.andLane (Cascade.trans ?_ (attach_cascade _ _))
  refine Cascade.andSocket (Cascade.andPool (reserveAll_cascade s q m _) ?_ ?_) ?_
  · exact List.filter_sublist
  all_goals first | rfl | exact fun _ => rfl

theorem grantOne_cascade {s t : State} (h : grantOne s = some t) : Cascade s t := by
  unfold grantOne at h
  split at h
  · split at h
    · exact absurd h (by simp)
    · exact Option.some.inj h ▸ dispatch_cascade s _ _ _
  · exact absurd h (by simp)

theorem grantLoop_cascade (fuel : Nat) (s : State) : Cascade s (grantLoop fuel s) := by
  induction fuel generalizing s with
  | zero => exact Cascade.refl s
  | succ n ih =>
    unfold grantLoop
    split
    · exact Cascade.refl s
    · exact (grantOne_cascade ‹_›).trans (ih _)

theorem markOne_cascade {s t : State} (h : markOne s = some t) : Cascade s t := by
  unfold markOne at h
  split at h
  · exact Option.some.inj h ▸ Cascade.modLane s _ _
  · exact absurd h (by simp)

theorem markLoop_cascade (fuel : Nat) (s : State) : Cascade s (markLoop fuel s) := by
  induction fuel generalizing s with
  | zero => exact Cascade.refl s
  | succ n ih =>
    unfold markLoop
    split
    · exact Cascade.refl s
    · exact (markOne_cascade ‹_›).trans (ih _)

theorem arbitrate_cascade (s : State) : Cascade s (arbitrate s) := by
  refine Cascade.trans ?_ (markLoop_cascade 4 _)
  split
  · exact ((Cascade.setLanes s _).trans (Cascade.setLanes _ _)).trans (grantLoop_cascade 4 _)
  · exact Cascade.setLanes s _

theorem Socket.endRun_fixed (kind : Kind) (k : Socket) : (k.endRun kind).fixed = k.fixed := by cases kind <;> rfl

theorem runEndActions_cascade (s : State) (c : RunContext) : Cascade s (runEndActions s c) := by
  unfold runEndActions
  dsimp only
  refine Cascade.trans (Cascade.andSocket (Cascade.trans ?_ (detach_cascade _ _)) (Socket.endRun_fixed _))
    (bumpYield_cascade _ _ _)
  refine Cascade.andMask (commitAll_cascade s c) ?_
  exact fun _ => rfl

theorem resume_cascade (s : State) (l : LaneId) (c : RunContext) : Cascade s (resume s l c) := by
  unfold resume
  dsimp only
  refine Cascade.trans ?_ (comeToStart_cascade _ _ _)
  refine Cascade.andSocket (Cascade.andLane (Cascade.refl s)) ?_
  exact fun _ => rfl

theorem freeLane_cascade (s : State) (l : LaneId) : Cascade s (freeLane s l) := by
  unfold freeLane
  split
  · exact arbitrate_cascade s
  · exact (resume_cascade s l _).trans (arbitrate_cascade _)

theorem endActive_cascade (s : State) (l : LaneId) (e : Ending) (cause : Option AbortCause) :
    Cascade s (endActive s l e cause) := by
  unfold endActive
  split
  · exact Cascade.refl s
  · exact ((Cascade.modLane s l _).trans (runEndActions_cascade _ _)).trans (freeLane_cascade _ _)

theorem abortSlot_cascade (s : State) (l : LaneId) (cause : AbortCause) : Cascade s (abortSlot s l cause) := by
  unfold abortSlot
  split
  · exact Cascade.refl s
  · exact ((Cascade.modLane s l _).trans (runEndActions_cascade _ _)).trans (arbitrate_cascade _)

theorem abortRun_cascade (s : State) (r : RequestRef) (cause : AbortCause) : Cascade s (abortRun s r cause) := by
  unfold abortRun
  split
  · exact endActive_cascade s _ _ _
  · split
    · exact abortSlot_cascade s _ _
    · exact Cascade.refl s

theorem abortWhere_cascade (test : Option RunContext → Bool) (cause : AbortCause) (s : State) (l : LaneId) :
    Cascade s (abortWhere test cause s l) := by
  unfold abortWhere
  have h : Cascade s (if test (s.lane l).slot then abortSlot s l cause else s) := by
    split
    · exact abortSlot_cascade s l cause
    · exact Cascade.refl s
  dsimp only
  split
  · exact h.trans (endActive_cascade _ _ _ _)
  · exact h

theorem suspend_cascade (s : State) (l : LaneId) (c : RunContext) (q : Request) (m : Mask) :
    Cascade s (suspend s l c q m) := by
  unfold suspend
  dsimp only
  refine Cascade.trans ?_ (dispatch_cascade _ _ _ _)
  refine Cascade.andSocket (Cascade.andLane (Cascade.refl s)) ?_
  exact fun _ => rfl

theorem advance_cascade (s : State) (l : LaneId) : Cascade s (advance s l) := by
  unfold advance
  split
  · exact Cascade.refl s
  · split
    · exact endActive_cascade s l _ _
    · exact ((Cascade.modLane s l _).trans (comeToStart_cascade _ _ _)).trans (arbitrate_cascade _)

theorem quietAt_cascade (s : State) (l : LaneId) : Cascade s (quietAt s l) := by
  unfold quietAt
  split
  · split
    · exact Cascade.modLane s l _
    · exact comeToStart_cascade s l _
  · exact Cascade.refl s

theorem readyAt_cascade (p : PairId) (s : State) (l : LaneId) : Cascade s (readyAt p s l) := by
  unfold readyAt
  split
  · split
    · exact Cascade.modLane s l _
    · exact comeToStart_cascade s l _
  · exact Cascade.refl s

theorem unlockAt_cascade (p : PairId) (s : State) (l : LaneId) : Cascade s (unlockAt p s l) := by
  unfold unlockAt
  split
  · split
    · exact (Cascade.modLane s l _).trans (comeToStart_cascade _ _ _)
    · exact (Cascade.modLane s l _).trans (comeToStart_cascade _ _ _)
    · split
      · exact Cascade.modLane s l _
      · exact Cascade.refl s
    · exact Cascade.refl s
    · exact Cascade.refl s
  · exact Cascade.refl s

theorem abandon_cascade (s : State) (l : LaneId) (c : RunContext) (start : PendingStart) :
    Cascade s (abandon s l c start) := by
  unfold abandon
  have h := (Cascade.modLane s l fun x => { x.discardWork with active := some c.shaken }).trans
    (bumpYield_cascade _ c.request.socket disturbedIndex)
  dsimp only
  split
  · exact h.trans (endActive_cascade _ _ _ _)
  · exact h.trans (comeToStart_cascade _ _ _)

theorem motionAt_cascade (s : State) (l : LaneId) : Cascade s (motionAt s l) := by
  unfold motionAt
  split
  · exact abandon_cascade s l _ _
  · exact abandon_cascade s l _ _
  · exact (Cascade.modLane s l _).trans (comeToStart_cascade _ _ _)
  · exact Cascade.refl s

/-! ## Pair events -/

theorem modPair_modPair (s : State) (p : PairId) (f g : Pair → Pair) :
    (s.modPair p f).modPair p g = s.modPair p (fun x => g (f x)) := by
  unfold State.modPair
  congr 1
  refine Vector.ext fun i hi => ?_
  have hij := updateAt_get (updateAt s.pairs p f) p ⟨i, hi⟩ g
  have hk := updateAt_get s.pairs p ⟨i, hi⟩ fun x => g (f x)
  simp only [Fin.getElem_fin] at hij hk
  rw [hij, hk]
  by_cases e : (⟨i, hi⟩ : PairId) = p
  · rw [if_pos e, if_pos e]; exact congrArg g (updateAt_same s.pairs p f)
  · rw [if_neg e, if_neg e]
    have := updateAt_get s.pairs p ⟨i, hi⟩ f
    simp only [Fin.getElem_fin] at this
    rw [this, if_neg e]

/-- What follows the pair's own entry into FAULT: the notice, the aborts, the planner (R80). -/
theorem enterFault_cascade (s : State) (p : PairId) : Cascade (s.modPair p Pair.faulted) (enterFault s p) :=
  ((Cascade.latchAll _ _).trans (Cascade.foldl _ (abortWhere_cascade _ _) _ _)).trans (plannerPass_cascade _)

theorem failAttempt_cascade (s : State) (p : PairId) (why : PairFailure) (h : (s.pair p).state ≠ .fault) :
    Cascade s (failAttempt s p why) := by
  unfold failAttempt
  dsimp only
  split
  · rename_i h3
    refine Cascade.trans ?_ (enterFault_cascade _ p)
    rw [modPair_modPair]
    refine Cascade.modPair s p _ fun w => ⟨w.1, .inr ⟨?_, rfl⟩, w.2.2⟩
    have h2 : (s.pair p).attempts ≤ 2 := w.2.1.resolve_right fun e => h e.2
    have h3' : 3 ≤ (s.pair p).attempts + 1 := by simpa [Pair.failed, Pair.stopTimers] using h3
    show (s.pair p).attempts + 1 = 3
    omega
  · rename_i h3
    refine Cascade.trans ?_ (linkGrant_cascade _)
    rw [modPair_modPair]
    refine Cascade.modPair s p _ fun w => ⟨w.1, .inl ?_, w.2.2⟩
    have h3' : ¬ 3 ≤ (s.pair p).attempts + 1 := by simpa [Pair.failed, Pair.stopTimers] using h3
    show (s.pair p).attempts + 1 ≤ 2
    omega

theorem enterReady_cascade (s : State) (p : PairId) : Cascade s (enterReady s p) := by
  have h := ((Cascade.modPair s p Pair.readied fun w => ⟨w.1, .inl (Nat.zero_le 2), w.2.2⟩).trans
    (Cascade.foldl _ (readyAt_cascade p) allLanes _)).trans (arbitrate_cascade _)
  unfold enterReady
  dsimp only
  split
  · exact h.trans (plannerPass_cascade _)
  · exact h

/-- A move of a pair that leaves FAULT alone and keeps its tuning, attempts and floors. -/
theorem pairMove_cascade (s : State) (p : PairId) (f : Pair → Pair) (h : (s.pair p).state ≠ .fault)
    (hr : (f (s.pair p)).range = (s.pair p).range) (ht : (f (s.pair p)).tuned = (s.pair p).tuned)
    (ha : (f (s.pair p)).attempts = (s.pair p).attempts) (hf : (f (s.pair p)).floors = (s.pair p).floors) :
    Cascade s (s.modPair p f) :=
  Cascade.modPair s p f fun w =>
    ⟨by rw [hr, ht]; exact w.1, .inl (by rw [ha]; exact w.2.1.resolve_right fun e => h e.2), by rw [hf]; exact w.2.2⟩

theorem enterLocking_cascade (s : State) (p : PairId) (h : (s.pair p).state ≠ .fault) :
    Cascade s (enterLocking s p) := by
  unfold enterLocking
  split
  · exact pairMove_cascade s p _ h rfl rfl rfl rfl
  · exact pairMove_cascade s p _ h rfl rfl rfl rfl

theorem loseLock_cascade (s : State) (p : PairId) : Cascade s (loseLock s p) := by
  unfold loseLock
  split <;> rename_i e
  · exact (pairMove_cascade s p _ (by simp [e]) rfl rfl rfl rfl).trans (Cascade.foldl _ (unlockAt_cascade p) _ _)
  · exact pairMove_cascade s p _ (by simp [e]) rfl rfl rfl rfl
  · exact pairMove_cascade s p _ (by simp [e]) rfl rfl rfl rfl
  all_goals exact Cascade.refl s

theorem gainLock_cascade (s : State) (p : PairId) : Cascade s (gainLock s p) := by
  unfold gainLock
  split <;> rename_i e
  · exact pairMove_cascade s p _ (by simp [e]) rfl rfl rfl rfl
  · exact pairMove_cascade s p _ (by simp [e]) rfl rfl rfl rfl
  all_goals exact Cascade.refl s

end Sys2Proof.Machine
end

