-- ==== Sys2Proof/Laws/Commands.lean ====
section
/-!
SUPPORT. Taking a command at a port: the two outcomes of `takeCommand`, the length check of the port, and what an
answer changes.
-/
namespace Sys2Proof.Machine

/-- A port that takes a command answers with what the block gives. -/
theorem takeCommand_taken {n : StationId} {s : State} (h : s.takes n = true) (block : State × Answer) :
    takeCommand n s block = .next (block.1.answerAt n block.2) := if_pos h

/-- A port that takes no command leaves the state as it is. -/
theorem takeCommand_ignored {n : StationId} {s : State} (h : s.takes n = false) (block : State × Answer) :
    takeCommand n s block = .next s := if_neg (by simp [h])

/-- A command always completes, in one of two states. -/
theorem takeCommand_next (n : StationId) (s : State) (block : State × Answer) :
    takeCommand n s block = .next (if s.takes n then block.1.answerAt n block.2 else s) := by
  unfold takeCommand; split <;> rfl

/-- What holds of the state and of what the block leaves, and is blind to the answer, holds after the command. -/
theorem takeCommand_keeps {P : State → Prop} {n : StationId} {s t : State} {block : State × Answer}
    (h : takeCommand n s block = .next t) (hs : P s) (hb : P (block.1.answerAt n block.2)) : P t := by
  rw [takeCommand_next] at h
  injection h with h
  rw [← h]
  split
  · exact hb
  · exact hs

/-- The port's length check passes. -/
theorem fixedLength_ok {len : Nat} {payload : List Byte} (h : payload.length = len) (s : State)
    (block : State × Answer) : fixedLength len payload s block = block := if_pos h

/-- The port's length check fails: FRAME, and nothing else changes. -/
theorem fixedLength_frame {len : Nat} {payload : List Byte} (h : payload.length ≠ len) (s : State)
    (block : State × Answer) : fixedLength len payload s block = refuse s .frame := if_neg h

/-- A number in range names its socket. -/
theorem socketOf_val (k : SocketId) : socketOf k.val = some k := dif_pos k.isLt

theorem maskOf_val (m : MaskId) : maskOf m.val = some m := dif_pos m.isLt

theorem pairOf_val (p : PairId) : pairOf p.val = some p := dif_pos p.isLt

theorem laneOf_val (l : LaneId) : laneOf l.val = some l := dif_pos l.isLt

theorem stationOf_val (n : StationId) : stationOf n.val = some n := dif_pos n.isLt

/-- A number above the last socket names none. -/
theorem socketOf_above {i : Nat} (h : 15 < i) : socketOf i = none := dif_neg (by omega)

theorem maskOf_above {i : Nat} (h : 23 < i) : maskOf i = none := dif_neg (by omega)

theorem pairOf_above {i : Nat} (h : 1 < i) : pairOf i = none := dif_neg (by omega)

theorem laneOf_above {i : Nat} (h : 3 < i) : laneOf i = none := dif_neg (by omega)

theorem stationOf_above {i : Nat} (h : 3 < i) : stationOf i = none := dif_neg (by omega)

end Sys2Proof.Machine
end

