-- ==== Sys2Proof/Laws/Lanes.lean ====
section
/-!
SUPPORT. What the shared operations do to lanes: a lane that comes to start works or waits, every other lane stays,
and the law of lanes (R106 to R108) is kept by each whole operation.
-/
namespace Sys2Proof.Machine

/-- A lane with an active run, connected to that run's socket. -/
def Lane.manned (l : Lane) (c : RunContext) : Prop := l.active = some c ∧ l.connected = some c.request.socket

/-! ## Operations that leave every lane alone -/

theorem bumpYield_lane (s : State) (k : SocketId) (i : Fin 6) (j : LaneId) : (bumpYield s k i).lane j = s.lane j := by
  unfold bumpYield; split
  · split <;> rfl
  · rfl

theorem linkGrant_lane (s : State) (j : LaneId) : (linkGrant s).lane j = s.lane j := by
  unfold linkGrant; split
  · rfl
  · split
    · rfl
    · unfold grantTo; split <;> rfl

theorem acceptTuning_lane (s : State) (p : PairId) (f : Nat) (j : LaneId) :
    (acceptTuning s p f).lane j = s.lane j := linkGrant_lane _ j

theorem plannerLoop_lane (fuel : Nat) (taken : List Nat) (s : State) (j : LaneId) :
    (plannerLoop fuel taken s).lane j = s.lane j := by
  induction fuel generalizing taken s with
  | zero => rfl
  | succ n ih =>
    unfold plannerLoop; split
    · rfl
    · split
      · rfl
      · split
        · exact ih _ _
        · exact (ih _ _).trans (acceptTuning_lane _ _ _ j)

theorem plannerPass_lane (s : State) (j : LaneId) : (plannerPass s).lane j = s.lane j := plannerLoop_lane _ _ s j

theorem plannerIfFree_lane (s : State) (p : PairId) (j : LaneId) : (plannerIfFree s p).lane j = s.lane j := by
  unfold plannerIfFree; split
  · exact plannerPass_lane s j
  · rfl

theorem attach_lane (s : State) (p : Option PairId) (j : LaneId) : (attach s p).lane j = s.lane j := by
  cases p <;> rfl

theorem detach_lane (s : State) (p : Option PairId) (j : LaneId) : (detach s p).lane j = s.lane j := by
  cases p with
  | none => rfl
  | some p => exact plannerIfFree_lane _ p j

theorem runEndActions_lane (s : State) (c : RunContext) (j : LaneId) : (runEndActions s c).lane j = s.lane j := by
  unfold runEndActions
  dsimp only
  rw [bumpYield_lane, modSocket_lane, detach_lane]
  rfl

theorem leavePool_lane (s : State) (q : Request) (j : LaneId) : (leavePool s q).lane j = s.lane j := rfl

/-! ## Coming to start -/

/-- A lane that comes to start leaves the others as they are. -/
theorem comeToStart_other (s : State) (l j : LaneId) (start : PendingStart) (h : j ≠ l) :
    (comeToStart s l start).lane j = s.lane j := by
  unfold comeToStart
  split
  · rfl
  · split
    · cases start <;> simp only [startNow]
      · unfold startEdge; split <;> simp [startEtu, h]
      · simp [h]
      · simp [h]
    · simp [h]

/-- A manned lane that comes to start keeps its run, slot, mark and connection, and is then lawful and not IDLE. -/
theorem comeToStart_self (s : State) (l : LaneId) (start : PendingStart) (c : RunContext)
    (h : (s.lane l).manned c) (hs : start ≠ .none) :
    ((comeToStart s l start).lane l).lawful ∧ ((comeToStart s l start).lane l).active = some c ∧
    ((comeToStart s l start).lane l).state ≠ .idle ∧
    ((comeToStart s l start).lane l).slot = (s.lane l).slot ∧
    ((comeToStart s l start).lane l).mark = (s.lane l).mark := by
  obtain ⟨ha, hc⟩ := h
  unfold comeToStart
  rw [ha]
  dsimp only
  split
  · cases start <;> simp only [startNow]
    · exact absurd rfl hs
    · unfold startEdge
      split <;> simp [startEtu, Lane.work, Lane.lawful, ha, hc]
    · simp [Lane.work, Lane.lawful, ha, hc]
    · simp [Lane.work, Lane.lawful, ha, hc]
  · rename_i hn
    have hold : ((!s.monitor.quiet) || (!decide (start = .edgeStage) && !s.pairReady c)) = true := by
      unfold State.canStart at hn
      cases hq : s.monitor.quiet <;> cases hr : s.pairReady c <;> cases start <;> simp [hq, hr] at hn ⊢
    have hp : s.heldStart c start ≠ .none := by
      unfold State.heldStart; cases start
      · exact absurd rfl hs
      · simp
      · simp
      · dsimp only; split <;> simp
    simp [Lane.hold, Lane.lawful, ha, hc, hp]
    simpa using hold

/-- Coming to start keeps the law of lanes when the others are lawful and this one is manned. -/
theorem comeToStart_lawful (s : State) (l : LaneId) (start : PendingStart) (c : RunContext)
    (h : (s.lane l).manned c) (hs : start ≠ .none) (ho : ∀ j, j ≠ l → (s.lane j).lawful) :
    (comeToStart s l start).lanesLawful := fun j => by
  by_cases e : j = l
  · subst e; exact (comeToStart_self s j start c h hs).1
  · rw [comeToStart_other s l j start e]; exact ho j e

/-- A lawful lane with an active run is manned by it. -/
theorem Lane.lawful.manned {l : Lane} (h : l.lawful) {c : RunContext} (hc : l.active = some c) : l.manned c :=
  ⟨hc, by rw [h.2.2.2.2, hc]; rfl⟩

/-- A change of lane l that keeps it lawful keeps the law. -/
theorem modLane_lawful (s : State) (l : LaneId) (f : Lane → Lane) (w : s.lanesLawful)
    (h : (s.lane l).lawful → (f (s.lane l)).lawful) : (s.modLane l f).lanesLawful := fun j => by
  rw [modLane_lane]
  split
  · exact h (w l)
  · exact w j

/-- A state whose lanes are those of a lawful state is lawful. -/
theorem lanesLawful_of_eq {s t : State} (w : s.lanesLawful) (h : ∀ j, t.lane j = s.lane j) : t.lanesLawful :=
  fun j => by rw [h j]; exact w j

/-! ## Dispatch and the arbiter -/

/-- Dispatch changes no lane but the granted one. -/
theorem dispatch_other (s : State) (q : Request) (m : Mask) (l j : LaneId) (h : j ≠ l) :
    (dispatch s q m l).lane j = s.lane j := by
  unfold dispatch
  dsimp only
  rw [comeToStart_other _ l j _ h, modLane_lane, if_neg h, attach_lane]
  rfl

/-- The granted lane is lawful and not IDLE, carries no mark, and keeps its slot. -/
theorem dispatch_self (s : State) (q : Request) (m : Mask) (l : LaneId) :
    ((dispatch s q m l).lane l).lawful ∧ ((dispatch s q m l).lane l).state ≠ .idle ∧
    ((dispatch s q m l).lane l).slot = (s.lane l).slot ∧ ((dispatch s q m l).lane l).mark = none := by
  unfold dispatch
  dsimp only
  have h := comeToStart_self
    ((attach (((reserveAll s q m (s.pairFor q m)).modPool fun p =>
      { p.drop q.ref with lastGranted := q.station }).modSocket q.socket (Socket.run l)) (s.pairFor q m)).modLane l
      (Lane.take (RunContext.create q m (s.pairFor q m) (reservedIn s q m) (skippedBy s q m) s.now))) l .edgeStage
    (RunContext.create q m (s.pairFor q m) (reservedIn s q m) (skippedBy s q m) s.now)
    (by rw [modLane_lane, if_pos rfl]; exact ⟨rfl, rfl⟩) (by simp)
  refine ⟨h.1, h.2.2.1, ?_, ?_⟩
  · rw [h.2.2.2.1, modLane_lane, if_pos rfl, attach_lane]; rfl
  · rw [h.2.2.2.2, modLane_lane, if_pos rfl]; rfl

theorem dispatch_lawful (s : State) (q : Request) (m : Mask) (l : LaneId)
    (ho : ∀ j, j ≠ l → (s.lane j).lawful) : (dispatch s q m l).lanesLawful := fun j => by
  by_cases e : j = l
  · subst e; exact (dispatch_self s q m j).1
  · rw [dispatch_other s q m l j e]; exact ho j e

theorem grantOne_lawful {s t : State} (w : s.lanesLawful) (h : grantOne s = some t) : t.lanesLawful := by
  unfold grantOne at h
  split at h
  · split at h
    · exact absurd h (by simp)
    · exact Option.some.inj h ▸ dispatch_lawful s _ _ _ fun j _ => w j
  · exact absurd h (by simp)

theorem grantLoop_lawful (fuel : Nat) (s : State) (w : s.lanesLawful) : (grantLoop fuel s).lanesLawful := by
  induction fuel generalizing s with
  | zero => exact w
  | succ n ih =>
    unfold grantLoop; split
    · exact w
    · exact ih _ (grantOne_lawful w ‹_›)

theorem markLoop_lawful (fuel : Nat) (s : State) (w : s.lanesLawful) : (markLoop fuel s).lanesLawful := by
  induction fuel generalizing s with
  | zero => exact w
  | succ n ih =>
    unfold markLoop; split
    · exact w
    · rename_i t h
      refine ih _ ?_
      unfold markOne at h
      split at h
      · exact Option.some.inj h ▸ modLane_lawful s _ _ w id
      · exact absurd h (by simp)

theorem withdrawStale_lawful (s : State) (w : s.lanesLawful) : (withdrawStale s).lanesLawful := fun j => by
  have h := w j
  simp only [withdrawStale, State.lane, Fin.getElem_fin, Vector.getElem_ofFn] at h ⊢
  split
  · exact h
  · split <;> exact h

theorem withdrawAll_lawful (s : State) (w : s.lanesLawful) : (withdrawAll s).lanesLawful := fun j => by
  have h := w j
  simp only [withdrawAll, State.lane, Fin.getElem_fin, Vector.getElem_ofFn] at h ⊢
  exact h

theorem arbitrate_lawful (s : State) (w : s.lanesLawful) : (arbitrate s).lanesLawful := by
  refine markLoop_lawful 4 _ ?_
  split
  · exact grantLoop_lawful 4 _ (withdrawAll_lawful _ (withdrawStale_lawful s w))
  · exact withdrawStale_lawful s w

/-! ## Run end -/

theorem freeLane_lawful (s : State) (l : LaneId) (ho : ∀ j, j ≠ l → (s.lane j).lawful)
    (hl : (s.lane l).slot = none → (s.lane l).lawful) : (freeLane s l).lanesLawful := by
  unfold freeLane
  split
  · rename_i h
    refine arbitrate_lawful s fun j => ?_
    by_cases e : j = l
    · subst e; exact hl h
    · exact ho j e
  · rename_i c h
    refine arbitrate_lawful _ (comeToStart_lawful _ l .settle (c.runOn s.now) ?_ (by simp) fun j e => ?_)
    · rw [modSocket_lane, modLane_lane, if_pos rfl]; exact ⟨rfl, rfl⟩
    · rw [modSocket_lane, modLane_lane, if_neg e]; exact ho j e

/-- The run of a lane ends: the law is kept whatever the lane was doing, as long as the others are lawful. -/
theorem endActive_lawful' (s : State) (l : LaneId) (e : Ending) (cause : Option AbortCause)
    (ho : ∀ j, j ≠ l → (s.lane j).lawful) (hn : (s.lane l).active ≠ none) :
    (endActive s l e cause).lanesLawful := by
  unfold endActive
  split
  · exact absurd ‹_› hn
  · refine freeLane_lawful _ l (fun j h => ?_) fun h => ?_
    · rw [runEndActions_lane, modLane_lane, if_neg h]; exact ho j h
    · rw [runEndActions_lane, modLane_lane, if_pos rfl] at h ⊢
      have h' : (s.lane l).slot = none := h
      simp [Lane.lawful, Lane.release, Lane.discardWork, h']

theorem endActive_lawful (s : State) (l : LaneId) (e : Ending) (cause : Option AbortCause) (w : s.lanesLawful) :
    (endActive s l e cause).lanesLawful := by
  by_cases hn : (s.lane l).active = none
  · unfold endActive; rw [hn]; exact w
  · exact endActive_lawful' s l e cause (fun j _ => w j) hn

theorem Lane.lawful.emptySlot {l : Lane} (h : l.lawful) : ({ l with slot := none } : Lane).lawful :=
  ⟨h.1, fun _ => rfl, h.2.2.1, h.2.2.2.1, h.2.2.2.2⟩

theorem abortSlot_lawful (s : State) (l : LaneId) (cause : AbortCause) (w : s.lanesLawful) :
    (abortSlot s l cause).lanesLawful := by
  unfold abortSlot
  split
  · exact w
  · refine arbitrate_lawful _ (lanesLawful_of_eq ?_ fun j => runEndActions_lane _ _ j)
    exact modLane_lawful s l _ w Lane.lawful.emptySlot

theorem abortRun_lawful (s : State) (r : RequestRef) (cause : AbortCause) (w : s.lanesLawful) :
    (abortRun s r cause).lanesLawful := by
  unfold abortRun
  split
  · exact endActive_lawful s _ _ _ w
  · split
    · exact abortSlot_lawful s _ _ w
    · exact w

theorem abortWhere_lawful (test : Option RunContext → Bool) (cause : AbortCause) (s : State) (l : LaneId)
    (w : s.lanesLawful) : (abortWhere test cause s l).lanesLawful := by
  unfold abortWhere
  have h : (if test (s.lane l).slot then abortSlot s l cause else s).lanesLawful := by
    split
    · exact abortSlot_lawful s l cause w
    · exact w
  dsimp only
  split
  · exact endActive_lawful _ _ _ _ h
  · exact h

theorem foldl_lawful {α : Type} (g : State → α → State) (h : ∀ s a, s.lanesLawful → (g s a).lanesLawful)
    (as : List α) (s : State) (w : s.lanesLawful) : (as.foldl g s).lanesLawful := by
  induction as generalizing s with
  | nil => exact w
  | cons a as ih => exact ih _ (h s a w)

/-! ## Going on, suspension, and the events offered to lanes -/

theorem advance_lawful (s : State) (l : LaneId) (w : s.lanesLawful) : (advance s l).lanesLawful := by
  unfold advance
  split
  · exact w
  · rename_i c h
    split
    · exact endActive_lawful s l _ _ w
    · rename_i x _
      refine arbitrate_lawful _ (comeToStart_lawful _ l _ { c with stage := x } ?_ ?_ fun j e => ?_)
      · rw [modLane_lane, if_pos rfl]
        exact ⟨by simp [Lane.modActive, h], ((w l).manned h).2⟩
      · cases x <;> simp [startFor]
      · rw [modLane_lane, if_neg e]; exact w j

theorem suspend_lawful (s : State) (l : LaneId) (c : RunContext) (q : Request) (m : Mask) (w : s.lanesLawful) :
    (suspend s l c q m).lanesLawful := by
  unfold suspend
  refine dispatch_lawful _ q m l fun j e => ?_
  rw [modSocket_lane, modLane_lane, if_neg e]
  exact w j

/-- A lawful lane comes to start what it must: the law is kept. -/
theorem comeToStart_keeps (s : State) (l : LaneId) (start : PendingStart) (hs : start ≠ .none) (w : s.lanesLawful) :
    (comeToStart s l start).lanesLawful := by
  cases h : (s.lane l).active with
  | none => unfold comeToStart; rw [h]; exact w
  | some c => exact comeToStart_lawful s l start c ((w l).manned h) hs fun j _ => w j

theorem quietAt_lawful (s : State) (l : LaneId) (w : s.lanesLawful) : (quietAt s l).lanesLawful := by
  unfold quietAt
  split
  · rename_i hh
    split
    · rename_i hp
      refine modLane_lawful s l _ w fun h => ⟨h.1, h.2.1, ?_, h.2.2.2.1, h.2.2.2.2⟩
      simp [hh, hp]
    · exact comeToStart_keeps s l _ ((w l).2.2.2.1 hh) w
  · exact w

theorem readyAt_lawful (p : PairId) (s : State) (l : LaneId) (w : s.lanesLawful) : (readyAt p s l).lanesLawful := by
  unfold readyAt
  split
  · rename_i hh
    split
    · rename_i hp
      refine modLane_lawful s l _ w fun h => ⟨h.1, h.2.1, ?_, h.2.2.2.1, h.2.2.2.2⟩
      simp [hh.1, hp]
    · exact comeToStart_keeps s l _ ((w l).2.2.2.1 hh.1) w
  · exact w

/-- A lane whose work is discarded and whose run is only marked by the disturbance comes to start again. -/
theorem restart_lawful (s : State) (l : LaneId) (start : PendingStart) (hs : start ≠ .none) (f : RunContext → RunContext)
    (hf : ∀ c, (f c).request = c.request) (w : s.lanesLawful) (hn : (s.lane l).active ≠ none) :
    (comeToStart (s.modLane l fun x => { x.discardWork with active := x.active.map f }) l start).lanesLawful := by
  cases h : (s.lane l).active with
  | none => exact absurd h hn
  | some c =>
    refine comeToStart_lawful _ l start (f c) ?_ hs fun j e => ?_
    · rw [modLane_lane, if_pos rfl]
      refine ⟨by simp [h], ?_⟩
      rw [hf c]
      exact ((w l).manned h).2
    · rw [modLane_lane, if_neg e]; exact w j

theorem attached_active {p : PairId} {c : Option RunContext} (h : attachedTo p c = true) : c ≠ none := by
  intro e; rw [e] at h; exact absurd h (by simp [attachedTo])

theorem unlockAt_lawful (p : PairId) (s : State) (l : LaneId) (w : s.lanesLawful) : (unlockAt p s l).lanesLawful := by
  unfold unlockAt
  split
  · rename_i ha
    split
    · exact restart_lawful s l .settle (by simp) _ (fun _ => rfl) w (attached_active ha)
    · exact restart_lawful s l .settle (by simp) _ (fun _ => rfl) w (attached_active ha)
    · rename_i hh
      split
      · exact modLane_lawful s l _ w fun h => ⟨h.1, h.2.1, by simp [hh], fun _ => by simp, h.2.2.2.2⟩
      · exact w
    · exact w
    · exact w
  · exact w

theorem shaken_request (c : RunContext) : c.shaken.request = c.request := by
  unfold RunContext.shaken; cases c.mask.policy <;> rfl

theorem abandon_lawful (s : State) (l : LaneId) (c : RunContext) (start : PendingStart) (hs : start ≠ .none)
    (w : s.lanesLawful) (hc : (s.lane l).active = some c) : (abandon s l c start).lanesLawful := by
  unfold abandon
  dsimp only
  have ho : ∀ j, j ≠ l → ((bumpYield (s.modLane l fun x => { x.discardWork with active := some c.shaken })
      c.request.socket disturbedIndex).lane j).lawful := fun j e => by
    rw [bumpYield_lane, modLane_lane, if_neg e]; exact w j
  split
  · refine endActive_lawful' _ l _ _ ho ?_
    rw [bumpYield_lane, modLane_lane, if_pos rfl]; simp
  · refine comeToStart_lawful _ l start c.shaken ?_ hs ho
    rw [bumpYield_lane, modLane_lane, if_pos rfl]
    exact ⟨rfl, by rw [shaken_request]; exact ((w l).manned hc).2⟩

theorem motionAt_lawful (s : State) (l : LaneId) (w : s.lanesLawful) : (motionAt s l).lanesLawful := by
  unfold motionAt
  split
  · exact abandon_lawful s l _ _ (by simp) w ‹_›
  · exact abandon_lawful s l _ _ (by simp) w ‹_›
  · rename_i c h hs
    refine comeToStart_lawful _ l .settle c ?_ (by simp) fun j e => ?_
    · rw [modLane_lane, if_pos rfl]; exact (w l).manned h
    · rw [modLane_lane, if_neg e]; exact w j
  · exact w

/-! ## Pair events -/

theorem enterFault_lawful (s : State) (p : PairId) (w : s.lanesLawful) : (enterFault s p).lanesLawful :=
  lanesLawful_of_eq
    (foldl_lawful _ (abortWhere_lawful _ _) _ ((s.modPair p Pair.faulted).latchAll _) w) fun j => plannerPass_lane _ j

theorem failAttempt_lawful (s : State) (p : PairId) (why : PairFailure) (w : s.lanesLawful) :
    (failAttempt s p why).lanesLawful := by
  unfold failAttempt
  dsimp only
  split
  · exact enterFault_lawful _ p w
  · exact lanesLawful_of_eq w fun j => linkGrant_lane _ j

theorem enterReady_lawful (s : State) (p : PairId) (w : s.lanesLawful) : (enterReady s p).lanesLawful := by
  have h := arbitrate_lawful _ (foldl_lawful _ (readyAt_lawful p) allLanes (s.modPair p Pair.readied) w)
  unfold enterReady
  dsimp only
  split
  · exact lanesLawful_of_eq h fun j => plannerPass_lane _ j
  · exact h

theorem enterLocking_lawful (s : State) (p : PairId) (w : s.lanesLawful) : (enterLocking s p).lanesLawful := by
  unfold enterLocking; split <;> exact w

theorem loseLock_lawful (s : State) (p : PairId) (w : s.lanesLawful) : (loseLock s p).lanesLawful := by
  unfold loseLock
  split
  · exact foldl_lawful _ (unlockAt_lawful p) _ (s.modPair p (Pair.relock s.now)) w
  all_goals exact w

theorem gainLock_lawful (s : State) (p : PairId) (w : s.lanesLawful) : (gainLock s p).lanesLawful := by
  unfold gainLock; split <;> exact w

end Sys2Proof.Machine
end

