-- ==== Sys2Proof/Laws/Events.lean ====
section
/-!
SUPPORT. The `Cascade` and lane-law lemmas of the operations that one command or event uses.
-/
namespace Sys2Proof.Machine

/-! ## What each can change -/

theorem dropOrAbort_cascade (s : State) (k : SocketId) (cause : AbortCause) : Cascade s (dropOrAbort s k cause) := by
  unfold dropOrAbort
  split
  · exact (leavePool_cascade _ _).trans (arbitrate_cascade _)
  · split
    · exact abortRun_cascade _ _ _
    · exact Cascade.refl s

/-- A supply fault changes what the supply's move changes, and what follows from it (R52). -/
theorem takeSupplyFault_cascade (s : State) (k : SocketId) :
    Cascade (s.modSocket k (Socket.unpower .fault)) (takeSupplyFault s k) :=
  (Cascade.noticeSocket _ _).trans (dropOrAbort_cascade _ _ _)

theorem leaveAll_cascade (s : State) (qs : List Request) : Cascade s (leaveAll s qs) :=
  Cascade.foldl _ leavePool_cascade qs s

theorem becomeQuiet_cascade (s : State) :
    Cascade (s.modMonitor fun m => { m with quiet := true, quietTimer := none }) (becomeQuiet s) :=
  (Cascade.foldl _ quietAt_cascade _ _).trans (arbitrate_cascade _)

theorem closeWindow_cascade (s : State) (l : LaneId) (e : Etu) : Cascade s (closeWindow s l e) := by
  unfold closeWindow
  split
  · exact Cascade.modLane _ _ _
  · dsimp only
    split
    · exact (Cascade.modLane s l _).trans (endActive_cascade _ _ _ _)
    · exact (Cascade.modLane s l _).trans (advance_cascade _ _)

theorem acceptEdge_cascade (s : State) (l : LaneId) (level : Bool) (x : Stamp) :
    Cascade s (acceptEdge s l level x) := by
  unfold acceptEdge
  dsimp only
  split
  · exact closeWindow_cascade _ _ _
  · exact Cascade.modLane _ _ _

theorem inputTransition_cascade (s : State) (l : LaneId) (level : Bool) (x : Stamp) :
    Cascade s (inputTransition s l level x) := by
  unfold inputTransition
  dsimp only
  repeat' split
  all_goals first | exact Cascade.refl s | exact Cascade.modLane _ _ _ | exact acceptEdge_cascade _ _ _ _

theorem afterCount_cascade (s : State) (l : LaneId) (c : RunContext) : Cascade s (afterCount s l c) := by
  unfold afterCount
  split
  · exact (suspend_cascade _ _ _ _ _).trans (arbitrate_cascade _)
  · exact (comeToStart_cascade _ _ _).trans (arbitrate_cascade _)

theorem completeCounted_cascade (s : State) (l : LaneId) (v : Vector CrossSpectrum 8) (c : RunContext) :
    Cascade s (completeCounted s l v c) := by
  unfold completeCounted
  dsimp only
  split
  · exact (Cascade.modLane s l _).trans (endActive_cascade _ _ _ _)
  · exact (Cascade.modLane s l _).trans (afterCount_cascade _ _ _)

theorem cancelAt_cascade (s : State) (x : Place) : Cascade s (cancelAt s x) := by
  cases x
  · exact (leavePool_cascade _ _).trans (arbitrate_cascade _)
  · exact endActive_cascade _ _ _ _
  · exact abortSlot_cascade _ _ _

theorem takeReadback_cascade (s : State) (p : PairId) (a : SynthAddr) (words : List Word16) :
    Cascade s (takeReadback s p a words) := by
  unfold takeReadback
  split
  · rename_i h
    split
    · split
      · exact enterLocking_cascade s p (by simp [h])
      · exact Cascade.refl s
    · exact failAttempt_cascade s p _ (by simp [h])
  · exact Cascade.refl s

/-- A timer read with `timerIn` runs only in its state. -/
theorem timerIn_some {x : PairState} {timer : Option Nat} {p : Pair} {t : Nat} (h : p.timerIn x timer = some t) :
    p.state = x ∧ timer = some t := by
  unfold Pair.timerIn at h
  split at h
  · exact ⟨‹_›, h⟩
  · cases h

/-! ## The lane law -/

theorem dropOrAbort_lawful (s : State) (k : SocketId) (cause : AbortCause) (w : s.lanesLawful) :
    (dropOrAbort s k cause).lanesLawful := by
  unfold dropOrAbort
  split
  · exact arbitrate_lawful _ (lanesLawful_of_eq w fun j => leavePool_lane _ _ j)
  · split
    · exact abortRun_lawful _ _ _ w
    · exact w

theorem noticeSocket_lane (s : State) (o : Option StationId) (j : LaneId) : (s.noticeSocket o).lane j = s.lane j := by
  cases o <;> rfl

theorem takeSupplyFault_lawful (s : State) (k : SocketId) (w : s.lanesLawful) : (takeSupplyFault s k).lanesLawful :=
  dropOrAbort_lawful _ _ _ (lanesLawful_of_eq w fun j => noticeSocket_lane _ _ j)

theorem leaveAll_lawful (s : State) (qs : List Request) (w : s.lanesLawful) : (leaveAll s qs).lanesLawful :=
  foldl_lawful leavePool (fun t q h => lanesLawful_of_eq h fun j => leavePool_lane t q j) qs s w

theorem becomeQuiet_lawful (s : State) (w : s.lanesLawful) : (becomeQuiet s).lanesLawful :=
  arbitrate_lawful _ (foldl_lawful _ (fun _ _ h => quietAt_lawful _ _ h) _ _ (lanesLawful_of_eq w fun _ => rfl))

/-- A lane whose unit alone has changed is as lawful as before. -/
theorem modLane_etu_lawful (s : State) (l : LaneId) (g : Lane → Etu) (w : s.lanesLawful) :
    (s.modLane l fun x => { x with etu := g x }).lanesLawful := modLane_lawful s l _ w fun h => h

theorem RunContext.takeWindow_request (e : Etu) (c : RunContext) : (c.takeWindow e).request = c.request := by
  unfold RunContext.takeWindow
  cases c.stage <;> try rfl
  simp only [RunContext.takePullHigh]
  split <;> rfl

theorem closeWindow_lawful (s : State) (l : LaneId) (e : Etu) (w : s.lanesLawful) : (closeWindow s l e).lanesLawful := by
  unfold closeWindow
  split
  · exact modLane_etu_lawful s l _ w
  · rename_i c hc
    have h : (s.modLane l fun x => { x with etu := e.close, active := some (c.takeWindow e) }).lanesLawful := by
      refine modLane_lawful s l _ w fun ⟨h1, h2, h3, h4, h5⟩ => ?_
      refine ⟨?_, ?_, h3, h4, ?_⟩
      · simp only [reduceCtorEq, iff_false]; rw [h1, hc]; simp
      · simp
      · simp only [h5, hc, Option.map_some, RunContext.takeWindow_request]
    dsimp only
    split
    · exact endActive_lawful _ _ _ _ h
    · exact advance_lawful _ _ h

theorem acceptEdge_lawful (s : State) (l : LaneId) (level : Bool) (x : Stamp) (w : s.lanesLawful) :
    (acceptEdge s l level x).lanesLawful := by
  unfold acceptEdge
  dsimp only
  split
  · exact closeWindow_lawful _ _ _ w
  · exact modLane_etu_lawful s l _ w

theorem inputTransition_lawful (s : State) (l : LaneId) (level : Bool) (x : Stamp) (w : s.lanesLawful) :
    (inputTransition s l level x).lanesLawful := by
  unfold inputTransition
  dsimp only
  repeat' split
  all_goals first
    | exact w
    | exact modLane_etu_lawful s l _ w
    | exact acceptEdge_lawful _ _ _ _ w

theorem takeReadback_lawful (s : State) (p : PairId) (a : SynthAddr) (words : List Word16) (w : s.lanesLawful) :
    (takeReadback s p a words).lanesLawful := by
  unfold takeReadback
  repeat' split
  all_goals first
    | exact w
    | exact enterLocking_lawful _ _ w
    | exact failAttempt_lawful _ _ _ w

theorem cancelAt_lawful (s : State) (x : Place) (w : s.lanesLawful) : (cancelAt s x).lanesLawful := by
  cases x
  · exact arbitrate_lawful _ (lanesLawful_of_eq w fun j => leavePool_lane _ _ j)
  · exact endActive_lawful _ _ _ _ w
  · exact abortSlot_lawful _ _ _ w

end Sys2Proof.Machine
end

