-- ==== Sys2Proof/Laws/Numbers.lean ====
section
/-!
SUPPORT. The arithmetic the rules share: the square root is the integer one, rounding is to the nearest, an averaged
level is the one its cross-spectrum reaches, and a two-byte field reads back what was written.
-/
namespace Sys2Proof.Machine

/-- The digit-by-digit loop keeps a root below and reaches the integer square root. -/
theorem sqrtBits_spec (bit r x : Nat) (hr : r * r ≤ x) (hx : x < (r + 2 ^ bit) * (r + 2 ^ bit)) :
    sqrtBits bit r x * sqrtBits bit r x ≤ x ∧ x < (sqrtBits bit r x + 1) * (sqrtBits bit r x + 1) := by
  induction bit generalizing r with
  | zero => exact ⟨hr, by simpa [sqrtBits] using hx⟩
  | succ n ih =>
    unfold sqrtBits
    split
    · rename_i h
      refine ih _ h ?_
      have e : r + 2 ^ n + 2 ^ n = r + 2 ^ (n + 1) := by omega
      rw [e]; exact hx
    · rename_i h
      exact ih _ hr (by omega)

/-- `intSqrt` is the integer square root. -/
theorem intSqrt_spec (x : Nat) : intSqrt x * intSqrt x ≤ x ∧ x < (intSqrt x + 1) * (intSqrt x + 1) := by
  refine sqrtBits_spec _ 0 x (Nat.zero_le x) ?_
  have h : x < 2 ^ (x.log2 + 1) := Nat.lt_log2_self
  have h2 : 2 ^ (x.log2 + 1) ≤ 2 ^ (x.log2 / 2 + 1) * 2 ^ (x.log2 / 2 + 1) := by
    rw [← Nat.pow_add]; exact Nat.pow_le_pow_right (by omega) (by omega)
  simp only [Nat.zero_add]
  omega

/-- `roundDiv` is within half of the exact quotient. -/
theorem roundDiv_near (num : Int) (den : Nat) (h : 0 < den) :
    2 * (num - roundDiv num den * den).natAbs ≤ den := by
  have key : ∀ a : Nat, (2 * a + den) / (2 * den) * (2 * den) ≤ 2 * a + den ∧
      2 * a + den < (2 * a + den) / (2 * den) * (2 * den) + 2 * den := fun a => by
    have := Nat.div_add_mod (2 * a + den) (2 * den)
    have hlt := Nat.mod_lt (2 * a + den) (show 0 < 2 * den by omega)
    rw [Nat.mul_comm] at this
    omega
  have hk := key num.natAbs
  unfold roundDiv
  generalize (2 * num.natAbs + den) / (2 * den) = q at hk
  have hq : q * (2 * den) = 2 * (q * den) := by ring
  split
  · have : (-(q : Int)) * den = -((q * den : Nat) : Int) := by push_cast; ring
    rw [this]; omega
  · have : (q : Int) * den = ((q * den : Nat) : Int) := by push_cast; ring
    rw [this]; omega

/-- Two bytes read back the number they were written from, modulo 65536. -/
theorem field16_bytes16 (n : Nat) : field16 (bytes16 n) 0 = n % 65536 := by
  simp only [field16, field8, byteAt, bytes16, List.getD_cons_zero, List.getD_cons_succ, BitVec.toNat_ofNat]
  omega

/-- `largestBits` of a predicate that is closed below: a number below the bound is at most the result exactly when it
fits. -/
theorem le_largestBits (fits : Nat → Bool) (down : ∀ k, fits (k + 1) = true → fits k = true) (bit r k : Nat)
    (hr : ∀ j, j ≤ r → r = 0 ∨ fits j = true) (hk : k < r + 2 ^ bit) (h0 : 0 < k) :
    k ≤ largestBits fits bit r ↔ fits k = true := by
  have mono : ∀ a b, a ≤ b → fits b = true → fits a = true := fun a b hab => by
    induction hab with
    | refl => exact id
    | step _ ih => exact fun h => ih (down _ h)
  induction bit generalizing r with
  | zero =>
    have hk' : k ≤ r := by simpa using Nat.lt_succ_iff.mp hk
    simp only [largestBits]
    exact ⟨fun _ => (hr k hk').resolve_left (by omega), fun _ => hk'⟩
  | succ n ih =>
    have e : r + 2 ^ (n + 1) = r + 2 ^ n + 2 ^ n := by omega
    unfold largestBits
    split
    · rename_i h
      exact ih _ (fun j hj => .inr (mono j _ hj h)) (by omega)
    · rename_i h
      by_cases hlt : k < r + 2 ^ n
      · exact ih _ hr hlt
      · have hle : ∀ m q, largestBits fits m q ≤ q + 2 ^ m - 1 := fun m => by
          induction m with
          | zero => intro q; simp [largestBits]
          | succ m ihm =>
            intro q
            have e2 : q + 2 ^ (m + 1) = q + 2 ^ m + 2 ^ m := by omega
            have hp : 0 < 2 ^ m := Nat.two_pow_pos m
            unfold largestBits; split
            · have := ihm (q + 2 ^ m); omega
            · have := ihm q; omega
        have hb := hle n r
        have hp : 0 < 2 ^ n := Nat.two_pow_pos n
        constructor
        · intro hh; omega
        · intro hf; exact absurd (mono _ _ (Nat.le_of_not_lt hlt) hf) h

/-- A higher level is harder to reach. -/
theorem reachesLevel_down (z : CrossSpectrum) (n k : Nat) (h : reachesLevel z n (k + 1) = true) :
    reachesLevel z n k = true := by
  simp only [reachesLevel, decide_eq_true_eq] at h ⊢
  refine Nat.le_trans (Nat.mul_le_mul_left _ ?_) h
  exact Nat.pow_le_pow_right (by omega) (by omega)

/-- `averagedLevel` reaches a level of its range above the lowest exactly when the cross-spectrum does. -/
theorem le_averagedLevel (z : CrossSpectrum) (n k : Nat) (h0 : 0 < k) (hk : k ≤ 1700) :
    (k : Int) - 2000 ≤ averagedLevel z n ↔ reachesLevel z n k = true := by
  have h := le_largestBits (reachesLevel z n) (reachesLevel_down z n) 11 0 k (fun j _ => .inl rfl) (by omega) h0
  rw [← h]
  unfold averagedLevel
  generalize largestBits (reachesLevel z n) 11 0 = x
  unfold holdInt
  split
  · omega
  · split <;> omega

end Sys2Proof.Machine
end

