-- ==== Sys2Proof/Laws/Work.lean ====
section
/-!
SUPPORT. What the shared operations do to the work of the part: the live requests, the counts of masks and pairs, and
the sockets' engagements (`State.workLaw`). `Work s x` is that law for a state in which the runs of `x` have left their
lanes and have not yet made their run-end actions; `SameWork s t` says that nothing of it changed.
-/
namespace Sys2Proof.Machine

/-- What the law of the work reads of a run: its request and its attached pair. -/
abbrev Claim := Request × Option PairId

/-- The claim of a run. -/
def RunContext.claim (c : RunContext) : Claim := (c.request, c.pair)

/-- What a socket's entry says of its work. -/
def Socket.tags (k : Socket) : Engagement × Option RequestRef × Option LaneId := (k.engagement, k.request, k.lane)

/-- The claims of a lane's runs. -/
def Lane.claims (l : Lane) : List Claim := l.contexts.map RunContext.claim

/-- The claims of all runs. -/
def State.claims (s : State) : List Claim := allLanes.flatMap fun l => (s.lane l).claims

/-- The live requests, with those of the claims x. -/
def State.liveWith (s : State) (x : List Claim) : List Request := s.pool.requests ++ (s.claims ++ x).map Prod.fst

/-- The law of the work with the runs of x between their lane and their run-end actions. -/
structure Work (s : State) (x : List Claim) : Prop where
  refs : ∀ m, (s.mask m).refCount = (s.liveWith x).countP fun q => decide (q.mask = m)
  attached : ∀ p, (s.pair p).attachments = (s.claims ++ x).countP fun c => decide (c.2 = some p)
  sockets : ((s.liveWith x).map Request.socket).Nodup
  names : ((s.liveWith x).map Request.ref).Nodup
  queued : ∀ q ∈ s.pool.requests, (s.socket q.socket).tags = (.queued, some q.ref, none)
  running : ∀ l c, (s.lane l).active = some c →
    (s.socket c.request.socket).tags = (.running, some c.request.ref, some l)
  suspended : ∀ l c, (s.lane l).slot = some c →
    (s.socket c.request.socket).tags = (.suspended, some c.request.ref, none)
  free : ∀ k, (∀ q ∈ s.liveWith x, q.socket ≠ k) → (s.socket k).tags = (.idle, none, none)
  marks : ∀ l, (s.lane l).mark ≠ none → (s.lane l).slot = none

/-! ## Claims lane by lane -/

theorem claims_runs (s : State) : s.claims = s.runs.map RunContext.claim := by
  simp [State.claims, State.runs, List.map_flatMap, Lane.claims]

theorem liveWith_nil (s : State) : s.liveWith [] = s.liveRequests := by
  simp [State.liveWith, State.liveRequests, claims_runs, Function.comp_def, RunContext.claim]

/-- The claims of the lanes other than l. -/
def State.otherClaims (s : State) (l : LaneId) : List Claim :=
  (allLanes.filter fun j => decide (j ≠ l)).flatMap fun j => (s.lane j).claims

theorem claims_perm (s : State) (l : LaneId) : s.claims.Perm ((s.lane l).claims ++ s.otherClaims l) := by
  have h : ∀ f : LaneId → List Claim, (allLanes.flatMap f).Perm
      (f l ++ (allLanes.filter fun j => decide (j ≠ l)).flatMap f) := by
    intro f
    fin_cases l
    · exact List.Perm.refl _
    · simp [allLanes, List.flatMap_cons, List.filter]
      exact List.perm_append_comm_assoc _ _ _
    · simp [allLanes, List.flatMap_cons, List.filter]
      rw [← List.append_assoc, ← List.append_assoc (f 0)]
      exact (List.perm_append_comm_assoc _ _ _).trans (by simp)
    · simp [allLanes, List.flatMap_cons, List.filter]
      have := List.perm_append_comm (l₁ := f 0 ++ f 1 ++ f 2) (l₂ := f 3)
      simpa using this
  exact h _

theorem otherClaims_congr {s t : State} {l : LaneId} (h : ∀ j, j ≠ l → (t.lane j).claims = (s.lane j).claims) :
    t.otherClaims l = s.otherClaims l := by
  unfold State.otherClaims
  refine List.flatMap_congr fun j hj => h j ?_
  simpa using (List.mem_filter.mp hj).2

/-- A change of one lane's claims changes the claims by just that. -/
theorem claims_change {s t : State} {l : LaneId} (h : ∀ j, j ≠ l → (t.lane j).claims = (s.lane j).claims) :
    t.claims.Perm ((t.lane l).claims ++ s.otherClaims l) := by
  rw [← otherClaims_congr h]; exact claims_perm t l

theorem mem_claims_active {s : State} {l : LaneId} {c : RunContext} (h : (s.lane l).active = some c) :
    c.claim ∈ s.claims :=
  (claims_perm s l).mem_iff.mpr (List.mem_append_left _ (by simp [Lane.claims, Lane.contexts, h]))

theorem mem_claims_slot {s : State} {l : LaneId} {c : RunContext} (h : (s.lane l).slot = some c) :
    c.claim ∈ s.claims :=
  (claims_perm s l).mem_iff.mpr (List.mem_append_left _ (by simp [Lane.claims, Lane.contexts, h]))

theorem claims_of_lanes {s t : State} (h : ∀ j, (t.lane j).claims = (s.lane j).claims) : t.claims = s.claims :=
  List.flatMap_congr fun j _ => h j

/-! ## Nothing changed -/

/-- From s to t nothing has changed of what the law of the work reads, but for marks that may have gone. -/
structure SameWork (s t : State) : Prop where
  requests : t.pool.requests = s.pool.requests
  refCount : ∀ m, (t.mask m).refCount = (s.mask m).refCount
  attachments : ∀ p, (t.pair p).attachments = (s.pair p).attachments
  tags : ∀ k, (t.socket k).tags = (s.socket k).tags
  active : ∀ l, (t.lane l).active.map RunContext.claim = (s.lane l).active.map RunContext.claim
  slot : ∀ l, (t.lane l).slot.map RunContext.claim = (s.lane l).slot.map RunContext.claim
  mark : ∀ l, (t.lane l).mark = none ∨ (t.lane l).mark = (s.lane l).mark

namespace SameWork

theorem refl (s : State) : SameWork s s :=
  ⟨rfl, fun _ => rfl, fun _ => rfl, fun _ => rfl, fun _ => rfl, fun _ => rfl, fun _ => .inr rfl⟩

theorem trans {s t u : State} (a : SameWork s t) (b : SameWork t u) : SameWork s u where
  requests := b.requests.trans a.requests
  refCount m := (b.refCount m).trans (a.refCount m)
  attachments p := (b.attachments p).trans (a.attachments p)
  tags k := (b.tags k).trans (a.tags k)
  active l := (b.active l).trans (a.active l)
  slot l := (b.slot l).trans (a.slot l)
  mark l := by
    rcases b.mark l with h | h
    · exact .inl h
    · rw [h]; exact a.mark l

theorem laneClaims {s t : State} (a : SameWork s t) (l : LaneId) : (t.lane l).claims = (s.lane l).claims := by
  have h1 := a.active l; have h2 := a.slot l
  unfold Lane.claims Lane.contexts
  cases e1 : (t.lane l).active <;> cases e2 : (s.lane l).active <;> cases e3 : (t.lane l).slot <;>
    cases e4 : (s.lane l).slot <;> simp_all

theorem claims {s t : State} (a : SameWork s t) : t.claims = s.claims := claims_of_lanes a.laneClaims

theorem liveWith {s t : State} (a : SameWork s t) (x : List Claim) : t.liveWith x = s.liveWith x := by
  unfold State.liveWith; rw [a.requests, a.claims]

theorem claimOf {a b : Option RunContext} (h : a.map RunContext.claim = b.map RunContext.claim) {c : RunContext}
    (hc : a = some c) : ∃ d, b = some d ∧ d.request = c.request := by
  subst hc
  cases b with
  | none => simp at h
  | some d => exact ⟨d, rfl, by simp [RunContext.claim] at h; exact h.1.symm⟩

theorem work {s t : State} (a : SameWork s t) {x : List Claim} (w : Work s x) : Work t x where
  refs m := by rw [a.refCount, a.liveWith]; exact w.refs m
  attached p := by rw [a.attachments, a.claims]; exact w.attached p
  sockets := by rw [a.liveWith]; exact w.sockets
  names := by rw [a.liveWith]; exact w.names
  queued q hq := by rw [a.tags]; exact w.queued q (a.requests ▸ hq)
  running l c hc := by
    obtain ⟨d, hd, e⟩ := claimOf (a.active l) hc
    rw [a.tags, ← e]; exact w.running l d hd
  suspended l c hc := by
    obtain ⟨d, hd, e⟩ := claimOf (a.slot l) hc
    rw [a.tags, ← e]; exact w.suspended l d hd
  free k hk := by rw [a.tags]; exact w.free k (a.liveWith x ▸ hk)
  marks l hl := by
    have h : (s.lane l).slot = none := by
      rcases a.mark l with e | e
      · exact absurd e hl
      · exact w.marks l (e ▸ hl)
    have h2 := a.slot l
    rw [h] at h2
    simpa using h2

theorem modSocket (s : State) (k : SocketId) (f : Socket → Socket) (h : ∀ x, (f x).tags = x.tags) :
    SameWork s (s.modSocket k f) :=
  { refl s with
    tags := fun j => by
      by_cases e : j = k
      · subst e; simp [h]
      · simp [e] }

theorem modPair (s : State) (p : PairId) (f : Pair → Pair) (h : (f (s.pair p)).attachments = (s.pair p).attachments) :
    SameWork s (s.modPair p f) :=
  { refl s with
    attachments := fun j => by
      by_cases e : j = p
      · subst e; simp [h]
      · simp [e] }

theorem modMask (s : State) (m : MaskId) (f : MaskEntry → MaskEntry) (h : ∀ x, (f x).refCount = x.refCount) :
    SameWork s (s.modMask m f) :=
  { refl s with
    refCount := fun j => by
      by_cases e : j = m
      · subst e; simp [h]
      · simp [e] }

theorem setLanes (s : State) (v : Vector Lane 4)
    (h : ∀ l : LaneId, v[l].active.map RunContext.claim = (s.lane l).active.map RunContext.claim ∧
      v[l].slot.map RunContext.claim = (s.lane l).slot.map RunContext.claim ∧
      (v[l].mark = none ∨ v[l].mark = (s.lane l).mark)) : SameWork s { s with lanes := v } :=
  { refl s with active := fun l => (h l).1, slot := fun l => (h l).2.1, mark := fun l => (h l).2.2 }

theorem modLane (s : State) (l : LaneId) (f : Lane → Lane)
    (ha : (f (s.lane l)).active.map RunContext.claim = (s.lane l).active.map RunContext.claim)
    (hs : (f (s.lane l)).slot.map RunContext.claim = (s.lane l).slot.map RunContext.claim)
    (hm : (f (s.lane l)).mark = none ∨ (f (s.lane l)).mark = (s.lane l).mark) : SameWork s (s.modLane l f) :=
  { refl s with
    active := fun j => by
      by_cases e : j = l
      · subst e; simpa using ha
      · simp [e]
    slot := fun j => by
      by_cases e : j = l
      · subst e; simpa using hs
      · simp [e]
    mark := fun j => by
      by_cases e : j = l
      · subst e; simpa using hm
      · simp [e] }

/-- A change that touches none of the pool, masks, pairs, sockets and lanes. -/
theorem aside {s t : State} (hr : t.pool.requests = s.pool.requests) (hm : t.masks = s.masks) (hp : t.pairs = s.pairs)
    (hk : t.sockets = s.sockets) (hl : t.lanes = s.lanes) : SameWork s t where
  requests := hr
  refCount m := by simp [State.mask, hm]
  attachments p := by simp [State.pair, hp]
  tags k := by simp [State.socket, hk]
  active l := by simp [State.lane, hl]
  slot l := by simp [State.lane, hl]
  mark l := by simp [State.lane, hl]

theorem foldl {α : Type} (g : State → α → State) (h : ∀ s a, SameWork s (g s a)) (as : List α) (s : State) :
    SameWork s (as.foldl g s) := by
  induction as generalizing s with
  | nil => exact refl s
  | cons a as ih => exact (h s a).trans (ih _)

end SameWork

/-! ## Operations that leave the work alone -/

theorem latchAll_same (s : State) (f : Latched → Latched) : SameWork s (s.latchAll f) :=
  SameWork.aside rfl rfl rfl rfl rfl

theorem noticeSocket_same (s : State) (o : Option StationId) : SameWork s (s.noticeSocket o) := by
  cases o
  · exact SameWork.refl s
  · exact SameWork.aside rfl rfl rfl rfl rfl

theorem bumpYield_same (s : State) (k : SocketId) (i : Fin 6) : SameWork s (bumpYield s k i) := by
  unfold bumpYield
  split
  · dsimp only
    split
    · exact SameWork.aside rfl rfl rfl rfl rfl
    · exact SameWork.aside rfl rfl rfl rfl rfl
  · exact SameWork.refl s

theorem linkGrant_same (s : State) : SameWork s (linkGrant s) := by
  unfold linkGrant
  split
  · exact SameWork.refl s
  · split
    · exact SameWork.refl s
    · unfold grantTo
      split
      · exact SameWork.refl s
      · rename_i p _ _ _ rest _
        exact (SameWork.modPair s p (fun x => { x with queue := rest }) rfl).trans (SameWork.aside rfl rfl rfl rfl rfl)

theorem acceptTuning_same (s : State) (p : PairId) (f : Nat) : SameWork s (acceptTuning s p f) :=
  (SameWork.modPair s p (Pair.tune p f) rfl).trans (linkGrant_same _)

theorem plannerLoop_same (fuel : Nat) (taken : List Nat) (s : State) : SameWork s (plannerLoop fuel taken s) := by
  induction fuel generalizing taken s with
  | zero => exact SameWork.refl s
  | succ n ih =>
    unfold plannerLoop
    split
    · exact SameWork.refl s
    · split
      · exact SameWork.refl s
      · split
        · exact ih _ _
        · refine SameWork.trans ?_ (ih _ _)
          exact SameWork.trans (t := s.setRetune _ _) (SameWork.aside rfl rfl rfl rfl rfl) (acceptTuning_same _ _ _)

theorem plannerPass_same (s : State) : SameWork s (plannerPass s) := plannerLoop_same _ _ s

theorem plannerIfFree_same (s : State) (p : PairId) : SameWork s (plannerIfFree s p) := by
  unfold plannerIfFree
  split
  · exact plannerPass_same s
  · exact SameWork.refl s

theorem comeToStart_same (s : State) (l : LaneId) (start : PendingStart) : SameWork s (comeToStart s l start) := by
  unfold comeToStart
  split
  · exact SameWork.refl s
  · split
    · cases start <;> simp only [startNow]
      · exact SameWork.refl s
      · unfold startEdge
        split
        · rename_i c _ _ _ code _ _
          exact (SameWork.modSocket s c.request.socket (fun k => { k with efcOutput := BitVec.ofNat 12 code })
            fun _ => rfl).trans (SameWork.modLane _ l _ rfl rfl (.inr rfl))
        · exact (SameWork.modLane s l _ rfl rfl (.inr rfl)).trans (SameWork.modLane _ l _ rfl rfl (.inr rfl))
      · exact SameWork.modLane s l _ rfl rfl (.inr rfl)
      · exact SameWork.modLane s l _ rfl rfl (.inr rfl)
    · exact SameWork.modLane s l _ rfl rfl (.inr rfl)

theorem withdrawStale_same (s : State) : SameWork s (withdrawStale s) :=
  SameWork.setLanes s _ fun l => by
    simp only [Fin.getElem_fin, Vector.getElem_ofFn]
    split
    · exact ⟨rfl, rfl, .inr rfl⟩
    · split
      · exact ⟨rfl, rfl, .inr rfl⟩
      · exact ⟨rfl, rfl, .inl rfl⟩

theorem withdrawAll_same (s : State) : SameWork s (withdrawAll s) :=
  SameWork.setLanes s _ fun l => by simp only [Fin.getElem_fin, Vector.getElem_ofFn, true_or, and_self]

theorem dropCopy_claim (n : StationId) (r : Ring) (c : RunContext) : (dropCopy n r c).claim = c.claim := by
  unfold dropCopy; split <;> rfl

theorem emptyRing_same (s : State) (n : StationId) : SameWork s (emptyRing s n) := by
  refine SameWork.trans (t := { s with lanes := Vector.ofFn fun l => (s.lane l).dropCopies n (s.ring n) })
    (SameWork.setLanes s _ fun l => ?_) (SameWork.aside rfl rfl rfl rfl rfl)
  simp only [Fin.getElem_fin, Vector.getElem_ofFn, Lane.dropCopies, Option.map_map, or_true, and_true]
  refine ⟨?_, ?_⟩
  · congr 1; funext c; exact dropCopy_claim n _ c
  · congr 1; funext c; exact dropCopy_claim n _ c

theorem quietAt_same (s : State) (l : LaneId) : SameWork s (quietAt s l) := by
  unfold quietAt
  split
  · split
    · exact SameWork.modLane s l _ rfl rfl (.inr rfl)
    · exact comeToStart_same s l _
  · exact SameWork.refl s

theorem readyAt_same (p : PairId) (s : State) (l : LaneId) : SameWork s (readyAt p s l) := by
  unfold readyAt
  split
  · split
    · exact SameWork.modLane s l _ rfl rfl (.inr rfl)
    · exact comeToStart_same s l _
  · exact SameWork.refl s

theorem unlockAt_same (p : PairId) (s : State) (l : LaneId) : SameWork s (unlockAt p s l) := by
  have h : SameWork s (s.modLane l fun x =>
      { x.discardWork with active := x.active.map fun c =>
          { c with disturbances := { c.disturbances with unlock := true } } }) :=
    SameWork.modLane s l _ (by simp only [Option.map_map]; rfl) rfl (.inr rfl)
  unfold unlockAt
  split
  · split
    · exact h.trans (comeToStart_same _ l _)
    · exact h.trans (comeToStart_same _ l _)
    · split
      · exact SameWork.modLane s l _ rfl rfl (.inr rfl)
      · exact SameWork.refl s
    · exact SameWork.refl s
    · exact SameWork.refl s
  · exact SameWork.refl s

theorem loseLock_same (s : State) (p : PairId) : SameWork s (loseLock s p) := by
  unfold loseLock
  split
  · exact (SameWork.modPair s p (Pair.relock s.now) rfl).trans (SameWork.foldl _ (unlockAt_same p) _ _)
  · exact SameWork.modPair s p (Pair.relock s.now) rfl
  · exact SameWork.modPair s p (Pair.relock s.now) rfl
  all_goals exact SameWork.refl s

theorem gainLock_same (s : State) (p : PairId) : SameWork s (gainLock s p) := by
  unfold gainLock
  split
  · exact SameWork.modPair s p _ rfl
  · exact SameWork.modPair s p _ rfl
  all_goals exact SameWork.refl s

theorem enterLocking_same (s : State) (p : PairId) : SameWork s (enterLocking s p) := by
  unfold enterLocking
  split
  · exact SameWork.modPair s p _ rfl
  · exact SameWork.modPair s p _ rfl

/-! ## Moves of one request -/

namespace Work

/-- The law of a state whose live requests are the same ones in other places. -/
theorem rebuild {s t : State} {x y : List Claim} (w : Work s x) (hl : (t.liveWith y).Perm (s.liveWith x))
    (hm : ∀ m, (t.mask m).refCount = (s.mask m).refCount)
    (ha : ∀ p, (t.pair p).attachments = (t.claims ++ y).countP fun c => decide (c.2 = some p))
    (hf : ∀ k, (∀ q ∈ s.liveWith x, q.socket ≠ k) → (t.socket k).tags = (s.socket k).tags)
    (hq : ∀ q ∈ t.pool.requests, (t.socket q.socket).tags = (.queued, some q.ref, none))
    (hr : ∀ l c, (t.lane l).active = some c →
      (t.socket c.request.socket).tags = (.running, some c.request.ref, some l))
    (hs : ∀ l c, (t.lane l).slot = some c →
      (t.socket c.request.socket).tags = (.suspended, some c.request.ref, none))
    (hk : ∀ l, (t.lane l).mark ≠ none → (t.lane l).slot = none) : Work t y where
  refs m := by rw [hm, w.refs]; exact (hl.countP_eq _).symm
  attached := ha
  sockets := (hl.map _).nodup_iff.mpr w.sockets
  names := (hl.map _).nodup_iff.mpr w.names
  queued := hq
  running := hr
  suspended := hs
  free k h := by
    have h' : ∀ q ∈ s.liveWith x, q.socket ≠ k := fun q e => h q (hl.mem_iff.mpr e)
    rw [hf k h', w.free k h']
  marks := hk

theorem live_perm {s t : State} {x y : List Claim} (hr : t.pool.requests = s.pool.requests)
    (hc : (t.claims ++ y).Perm (s.claims ++ x)) : (t.liveWith y).Perm (s.liveWith x) := by
  unfold State.liveWith; rw [hr]; exact (hc.map _).append_left _

/-- The first claim of those outside the lanes shares its socket with no other live request. -/
theorem apart {s : State} {c : Claim} {x : List Claim} (w : Work s (c :: x)) {q : Request}
    (hq : q ∈ s.pool.requests ∨ (∃ d ∈ s.claims, d.1 = q) ∨ ∃ d ∈ x, d.1 = q) : q.socket ≠ c.1.socket := by
  have hp : (s.liveWith (c :: x)).Perm (c.1 :: (s.pool.requests ++ (s.claims ++ x).map Prod.fst)) := by
    unfold State.liveWith
    have : (s.claims ++ c :: x).Perm (c :: (s.claims ++ x)) := List.perm_middle
    exact ((this.map _).append_left _).trans List.perm_middle
  have hn := (hp.map Request.socket).nodup_iff.mp w.sockets
  rw [List.map_cons, List.nodup_cons] at hn
  intro e
  refine hn.1 (List.mem_map.mpr ⟨q, ?_, e⟩)
  rcases hq with h | ⟨d, h, rfl⟩ | ⟨d, h, rfl⟩
  · exact List.mem_append_left _ h
  · exact List.mem_append_right _ (List.mem_map_of_mem (List.mem_append_left _ h))
  · exact List.mem_append_right _ (List.mem_map_of_mem (List.mem_append_right _ h))

theorem laneClaims_eq (l : Lane) :
    l.claims = (l.active.map RunContext.claim).toList ++ (l.slot.map RunContext.claim).toList := by
  unfold Lane.claims Lane.contexts
  cases l.active <;> cases l.slot <;> rfl

/-- The claims after a change of lane l, from those of the lane before and after. -/
theorem modLane_claims (s : State) (l : LaneId) (f : Lane → Lane) {x y : List Claim}
    (h : ((f (s.lane l)).claims ++ y).Perm ((s.lane l).claims ++ x)) :
    ((s.modLane l f).claims ++ y).Perm (s.claims ++ x) := by
  have h1 : (s.modLane l f).claims.Perm ((f (s.lane l)).claims ++ s.otherClaims l) := by
    have := claims_change (s := s) (t := s.modLane l f) (l := l) fun j e => by simp [e]
    simpa using this
  have h2 := claims_perm s l
  have h3 : ((f (s.lane l)).claims ++ s.otherClaims l ++ y).Perm ((s.lane l).claims ++ s.otherClaims l ++ x) := by
    have e : ∀ a b c : List Claim, (a ++ b ++ c).Perm (b ++ (a ++ c)) := fun a b c => by
      rw [List.append_assoc]; exact List.perm_append_comm_assoc _ _ _
    exact (e _ _ _).trans ((h.append_left _).trans (e _ _ _).symm)
  exact (h1.append_right y).trans (h3.trans (h2.append_right x).symm)

/-- What a change of lane l leaves of the law: the sockets of the runs that stay. -/
theorem ofLane {s : State} {l : LaneId} {f : Lane → Lane} {x y : List Claim} (w : Work s x)
    (hc : ((f (s.lane l)).claims ++ y).Perm ((s.lane l).claims ++ x))
    (ha : ∀ c, (f (s.lane l)).active = some c →
      (s.socket c.request.socket).tags = (.running, some c.request.ref, some l))
    (hs : ∀ c, (f (s.lane l)).slot = some c →
      (s.socket c.request.socket).tags = (.suspended, some c.request.ref, none))
    (hm : (f (s.lane l)).mark ≠ none → (f (s.lane l)).slot = none) : Work (s.modLane l f) y := by
  have hp := modLane_claims s l f hc
  refine w.rebuild (live_perm rfl hp) (fun _ => rfl) (fun p => ?_) (fun _ _ => rfl) w.queued (fun j c h => ?_)
    (fun j c h => ?_) fun j h => ?_
  · rw [hp.countP_eq]; exact w.attached p
  · by_cases e : j = l
    · subst e; exact ha c (by simpa using h)
    · exact w.running j c (by simpa [e] using h)
  · by_cases e : j = l
    · subst e; exact hs c (by simpa using h)
    · exact w.suspended j c (by simpa [e] using h)
  · by_cases e : j = l
    · subst e; simp only [modLane_lane, if_true] at h ⊢; exact hm h
    · simp only [modLane_lane, if_neg e] at h ⊢; exact w.marks j h

/-- The active run leaves lane l. -/
theorem takeActive {s : State} {l : LaneId} {f : Lane → Lane} {c : RunContext} {x : List Claim} (w : Work s x)
    (hc : (s.lane l).active = some c) (ha : (f (s.lane l)).active = none) (hs : (f (s.lane l)).slot = (s.lane l).slot)
    (hm : (f (s.lane l)).mark = none ∨ (f (s.lane l)).mark = (s.lane l).mark) :
    Work (s.modLane l f) (c.claim :: x) := by
  refine w.ofLane ?_ (fun d h => by rw [ha] at h; cases h) (fun d h => w.suspended l d (hs ▸ h)) fun h => ?_
  · rw [laneClaims_eq, laneClaims_eq, ha, hs, hc]
    exact List.perm_middle
  · rw [hs]
    rcases hm with e | e
    · exact absurd e h
    · exact w.marks l (e ▸ h)

/-- The suspended run leaves lane l. -/
theorem takeSlot {s : State} {l : LaneId} {f : Lane → Lane} {c : RunContext} {x : List Claim} (w : Work s x)
    (hc : (s.lane l).slot = some c) (hs : (f (s.lane l)).slot = none)
    (ha : (f (s.lane l)).active = (s.lane l).active) : Work (s.modLane l f) (c.claim :: x) := by
  refine w.ofLane ?_ (fun d h => w.running l d (ha ▸ h)) (fun d h => by rw [hs] at h; cases h) fun _ => hs
  rw [laneClaims_eq, laneClaims_eq, ha, hs, hc]
  simp only [Option.map_none, Option.toList_none, List.append_nil, Option.map_some, Option.toList_some]
  rw [List.append_assoc]
  exact List.Perm.refl _

/-- A run becomes the active run of lane l, its socket RUNNING there. -/
theorem putActive {s : State} {l : LaneId} {f : Lane → Lane} {c : Claim} {d : RunContext} {x : List Claim}
    (w : Work s (c :: x)) (hn : (s.lane l).active = none) (ha : (f (s.lane l)).active = some d) (hd : d.claim = c)
    (hs : (f (s.lane l)).slot = (s.lane l).slot)
    (hm : (f (s.lane l)).mark = none ∨ (f (s.lane l)).mark = (s.lane l).mark)
    (ht : (s.socket c.1.socket).tags = (.running, some c.1.ref, some l)) : Work (s.modLane l f) x := by
  refine w.ofLane ?_ (fun e h => ?_) (fun d h => w.suspended l d (hs ▸ h)) fun h => ?_
  · rw [laneClaims_eq, laneClaims_eq, ha, hs, hn]
    simp only [Option.map_some, Option.toList_some, hd, List.cons_append]
    exact List.perm_middle.symm
  · have : e = d := Option.some.inj (h.symm.trans ha)
    subst this
    have e1 : e.request = c.1 := by rw [← hd]; rfl
    rw [e1]; exact ht
  · rw [hs]
    rcases hm with e | e
    · exact absurd e h
    · exact w.marks l (e ▸ h)

/-- A run enters the empty suspend slot of lane l, its socket SUSPENDED. -/
theorem putSlot {s : State} {l : LaneId} {f : Lane → Lane} {c : Claim} {d : RunContext} {x : List Claim}
    (w : Work s (c :: x)) (hn : (s.lane l).slot = none) (hs : (f (s.lane l)).slot = some d) (hd : d.claim = c)
    (ha : (f (s.lane l)).active = (s.lane l).active) (hm : (f (s.lane l)).mark = none)
    (ht : (s.socket c.1.socket).tags = (.suspended, some c.1.ref, none)) : Work (s.modLane l f) x := by
  refine w.ofLane ?_ (fun d h => w.running l d (ha ▸ h)) (fun e h => ?_) fun h => absurd hm h
  · rw [laneClaims_eq, laneClaims_eq, ha, hs, hn]
    simp only [Option.map_some, Option.toList_some, hd, Option.map_none, Option.toList_none, List.append_nil]
    rw [List.append_assoc]; exact List.Perm.refl _
  · have : e = d := Option.some.inj (h.symm.trans hs)
    subst this
    have e1 : e.request = c.1 := by rw [← hd]; rfl
    rw [e1]; exact ht

/-- The socket of a run outside the lanes changes. -/
theorem limboSocket {s : State} {c : Claim} {x : List Claim} (w : Work s (c :: x)) (f : Socket → Socket) :
    Work (s.modSocket c.1.socket f) (c :: x) := by
  have hne : ∀ q : Request, (q ∈ s.pool.requests ∨ (∃ d ∈ s.claims, d.1 = q) ∨ ∃ d ∈ x, d.1 = q) →
      ((s.modSocket c.1.socket f).socket q.socket).tags = (s.socket q.socket).tags := fun q h => by
    simp [w.apart h]
  refine w.rebuild (List.Perm.refl _) (fun _ => rfl) w.attached (fun k h => ?_) (fun q h => ?_) (fun l d h => ?_)
    (fun l d h => ?_) w.marks
  · have : k ≠ c.1.socket := fun e => h c.1 (by simp [State.liveWith]) e.symm
    simp [this]
  · rw [hne q (.inl h)]; exact w.queued q h
  · rw [hne d.request (.inr (.inl ⟨_, mem_claims_active h, rfl⟩))]; exact w.running l d h
  · rw [hne d.request (.inr (.inl ⟨_, mem_claims_slot h, rfl⟩))]; exact w.suspended l d h

/-- A run outside the lanes is attached to a pair. -/
theorem limboAttach {s : State} {q : Request} {x : List Claim} (w : Work s ((q, none) :: x)) (pair : Option PairId) :
    Work (attach s pair) ((q, pair) :: x) := by
  cases pair with
  | none => exact w
  | some p =>
    refine w.rebuild ?_ (fun _ => rfl) (fun j => ?_) (fun _ _ => rfl) w.queued w.running w.suspended w.marks
    · unfold State.liveWith
      simp [attach, State.claims, State.modPair, State.lane]
    · have hj := w.attached j
      show ((s.modPair p _).pair j).attachments = (s.claims ++ (q, some p) :: x).countP _
      rw [List.countP_append, List.countP_cons] at hj ⊢
      rw [modPair_pair]
      by_cases e : j = p
      · subst e; simp at hj ⊢; omega
      · have e' : ¬ p = j := fun h => e h.symm
        simp [e, e'] at hj ⊢; omega

/-- A list is an element and the rest, when a name tells its elements apart. -/
theorem perm_cons_filter {α β : Type} [DecidableEq β] (f : α → β) (as : List α) (a : α) (hn : (as.map f).Nodup)
    (ha : a ∈ as) : as.Perm (a :: as.filter fun b => !decide (f b = f a)) := by
  induction as with
  | nil => cases ha
  | cons b rest ih =>
    rw [List.map_cons, List.nodup_cons] at hn
    by_cases e : f b = f a
    · have hb : a = b := by
        rcases List.mem_cons.mp ha with h | h
        · exact h
        · exact absurd (e ▸ List.mem_map_of_mem h) hn.1
      subst hb
      have : rest.filter (fun b => !decide (f b = f a)) = rest := List.filter_eq_self.mpr fun c hc => by
        have : f c ≠ f a := fun h => hn.1 (h ▸ List.mem_map_of_mem hc)
        simp [this]
      simp [this]
    · have hm : a ∈ rest := by
        rcases List.mem_cons.mp ha with h | h
        · exact absurd (by rw [h]) e
        · exact h
      have : (b :: rest).filter (fun b => !decide (f b = f a)) = b :: rest.filter fun b => !decide (f b = f a) := by
        simp [e]
      rw [this]
      exact ((ih hn.2 hm).cons b).trans (List.Perm.swap _ _ _)

/-- A request leaves the pool. -/
theorem takeQueued {s : State} {q : Request} {f : Pool → Pool} {x : List Claim} (w : Work s x)
    (hq : q ∈ s.pool.requests)
    (hf : (f s.pool).requests = s.pool.requests.filter fun r => !decide (r.ref = q.ref)) :
    Work (s.modPool f) ((q, none) :: x) := by
  have hn : (s.pool.requests.map Request.ref).Nodup := by
    have := w.names
    unfold State.liveWith at this
    rw [List.map_append] at this
    exact (List.nodup_append.mp this).1
  have hp := perm_cons_filter Request.ref s.pool.requests q hn hq
  have hc : (s.modPool f).claims = s.claims := rfl
  refine w.rebuild ?_ (fun _ => rfl) (fun p => ?_) (fun _ _ => rfl) (fun r h => ?_) w.running w.suspended w.marks
  · unfold State.liveWith
    rw [hc]
    show ((f s.pool).requests ++ _).Perm _
    rw [hf]
    have h1 : (s.claims ++ (q, (none : Option PairId)) :: x).Perm ((q, none) :: (s.claims ++ x)) := List.perm_middle
    refine ((h1.map Prod.fst).append_left _).trans ?_
    rw [List.map_cons]
    exact List.perm_middle.trans ((hp.append_right _).symm)
  · have := w.attached p
    rw [List.countP_append] at this ⊢
    rw [hc, List.countP_cons]
    simpa using this
  · have h' : r ∈ (f s.pool).requests := h
    rw [hf] at h'
    exact w.queued r (List.mem_filter.mp h').1

/-- A run outside the lanes is over: its mask's and pair's counts have fallen and its socket is IDLE. -/
theorem finish {s t : State} {c : Claim} {x : List Claim} (w : Work s (c :: x))
    (hr : t.pool.requests = s.pool.requests) (hl : ∀ l, t.lane l = s.lane l)
    (hm : ∀ m, (t.mask m).refCount = if m = c.1.mask then (s.mask m).refCount - 1 else (s.mask m).refCount)
    (ha : ∀ p, (t.pair p).attachments =
      if c.2 = some p then (s.pair p).attachments - 1 else (s.pair p).attachments)
    (ht : ∀ k, (t.socket k).tags = if k = c.1.socket then (.idle, none, none) else (s.socket k).tags) : Work t x := by
  have hc : t.claims = s.claims := claims_of_lanes fun j => by rw [hl]
  have hp : (s.liveWith (c :: x)).Perm (c.1 :: t.liveWith x) := by
    unfold State.liveWith
    rw [hr, hc]
    have : (s.claims ++ c :: x).Perm (c :: (s.claims ++ x)) := List.perm_middle
    exact ((this.map _).append_left _).trans List.perm_middle
  have hne : ∀ q : Request, (q ∈ s.pool.requests ∨ (∃ d ∈ s.claims, d.1 = q) ∨ ∃ d ∈ x, d.1 = q) →
      (t.socket q.socket).tags = (s.socket q.socket).tags := fun q h => by rw [ht, if_neg (w.apart h)]
  refine ⟨fun m => ?_, fun p => ?_, ?_, ?_, fun q h => ?_, fun l d h => ?_, fun l d h => ?_, fun k h => ?_,
    fun l h => ?_⟩
  · have := w.refs m
    rw [hp.countP_eq, List.countP_cons] at this
    rw [hm]
    by_cases e : m = c.1.mask
    · simp [e] at this ⊢; omega
    · have e' : ¬ c.1.mask = m := fun h => e h.symm
      simp [e, e'] at this ⊢; omega
  · have := w.attached p
    rw [List.countP_append, List.countP_cons] at this
    rw [ha, hc, List.countP_append]
    by_cases e : c.2 = some p
    · simp [e] at this ⊢; omega
    · simp [e] at this ⊢; omega
  · have := (hp.map Request.socket).nodup_iff.mp w.sockets
    exact (List.nodup_cons.mp this).2
  · have := (hp.map Request.ref).nodup_iff.mp w.names
    exact (List.nodup_cons.mp this).2
  · rw [hr] at h; rw [hne q (.inl h)]; exact w.queued q h
  · rw [hl] at h; rw [hne d.request (.inr (.inl ⟨_, mem_claims_active h, rfl⟩))]; exact w.running l d h
  · rw [hl] at h; rw [hne d.request (.inr (.inl ⟨_, mem_claims_slot h, rfl⟩))]; exact w.suspended l d h
  · rw [ht]
    split
    · rfl
    · rename_i e
      refine w.free k fun q hq => ?_
      rcases List.mem_cons.mp (hp.mem_iff.mp hq) with h1 | h1
      · rw [h1]; exact fun h2 => e h2.symm
      · exact h q h1
  · rw [hl] at h ⊢; exact w.marks l h

end Work

/-! ## Choices come from the pool -/

theorem oldest_mem (p : Pool) (qs : List Request) {q : Request} (h : p.oldest qs = some q) : q ∈ qs := by
  induction qs generalizing q with
  | nil => simp [Pool.oldest] at h
  | cons a rest ih =>
    unfold Pool.oldest at h
    split at h
    · simp_all
    · rename_i x hx
      split at h
      · have := Option.some.inj h; subst this; exact List.mem_cons_of_mem _ (ih hx)
      · have := Option.some.inj h; subst this; exact List.mem_cons_self

theorem pick_mem (s : State) (qs : List Request) {q : Request} (h : s.pick qs = some q) : q ∈ qs := by
  unfold State.pick at h
  obtain ⟨n, _, hn⟩ := List.exists_of_findSome?_eq_some h
  exact (List.mem_filter.mp (oldest_mem _ _ hn)).1

theorem grantChoice_mem (s : State) {q : Request} (h : s.grantChoice = some q) : q ∈ s.pool.requests := by
  unfold State.grantChoice at h
  split at h
  · rename_i x hx
    have := Option.some.inj h; subst this
    exact (List.mem_filter.mp (pick_mem s _ hx)).1
  · exact (List.mem_filter.mp (pick_mem s _ h)).1

theorem usableLane_usable (s : State) {l : LaneId} (h : s.usableLane = some l) : (s.lane l).usable = true := by
  unfold State.usableLane at h
  exact List.find?_some (p := fun l => (s.lane l).usable) h

theorem queued_mem (s : State) {r : RequestRef} {q : Request} (h : s.queued r = some q) : q ∈ s.pool.requests :=
  List.mem_of_find?_eq_some h

/-! ## Dispatch and the arbiter -/

theorem reserveAll_same (s : State) (q : Request) (m : Mask) (pair : Option PairId) :
    SameWork s (reserveAll s q m pair) := SameWork.aside rfl rfl rfl rfl rfl

theorem dispatch_work {s : State} {q : Request} {m : Mask} {l : LaneId} {x : List Claim} (w : Work s x)
    (hq : q ∈ s.pool.requests) (hn : (s.lane l).active = none) : Work (dispatch s q m l) x := by
  unfold dispatch
  dsimp only
  refine (comeToStart_same _ l _).work ?_
  have w1 : Work (reserveAll s q m (s.pairFor q m)) x := (reserveAll_same s q m _).work w
  have w2 := w1.takeQueued (f := fun p => { p.drop q.ref with lastGranted := q.station }) hq rfl
  have w3 := w2.limboSocket (Socket.run l)
  have w4 := w3.limboAttach (s.pairFor q m)
  refine w4.putActive (d := RunContext.create q m (s.pairFor q m) (reservedIn s q m) (skippedBy s q m) s.now) ?_ rfl rfl
    rfl (.inl rfl) ?_
  · rw [attach_lane]; exact hn
  · have h0 := w.queued q hq
    have : ∀ (u : State) (p : Option PairId), (attach u p).socket q.socket = u.socket q.socket := fun u p => by
      cases p <;> rfl
    rw [this, modSocket_socket, if_pos rfl]
    simp only [Socket.tags, Prod.mk.injEq] at h0
    have h1 : (((reserveAll s q m (s.pairFor q m)).modPool fun p =>
      { p.drop q.ref with lastGranted := q.station }).socket q.socket).request = some q.ref := h0.2.1
    simp only [Socket.tags, Socket.run, h1]

theorem grantOne_work {s t : State} {x : List Claim} (w : Work s x) (v : s.lanesLawful) (h : grantOne s = some t) :
    Work t x := by
  unfold grantOne at h
  split at h
  · rename_i l q hl hq
    split at h
    · cases h
    · have := Option.some.inj h; subst this
      refine dispatch_work w (grantChoice_mem s hq) ?_
      have hu := usableLane_usable s hl
      simp only [Lane.usable, Bool.and_eq_true, decide_eq_true_eq] at hu
      exact (v l).1.mp hu.1
  · cases h

theorem grantLoop_work (fuel : Nat) {s : State} {x : List Claim} (w : Work s x) (v : s.lanesLawful) :
    Work (grantLoop fuel s) x := by
  induction fuel generalizing s with
  | zero => exact w
  | succ n ih =>
    unfold grantLoop; split
    · exact w
    · exact ih (grantOne_work w v ‹_›) (grantOne_lawful v ‹_›)

theorem markLoop_work (fuel : Nat) {s : State} {x : List Claim} (w : Work s x) : Work (markLoop fuel s) x := by
  induction fuel generalizing s with
  | zero => exact w
  | succ n ih =>
    unfold markLoop; split
    · exact w
    · rename_i t h
      refine ih ?_
      unfold markOne at h
      split at h
      · rename_i l q hl _
        have := Option.some.inj h; subst this
        have hm : (s.lane l).markable = true := List.find?_some (p := fun l => (s.lane l).markable) hl
        refine w.ofLane (List.Perm.refl _) (w.running l) (w.suspended l) fun _ => ?_
        simp only [Lane.markable, Bool.and_eq_true, Option.isNone_iff_eq_none] at hm
        exact hm.1.1.2
      · cases h

theorem arbitrate_work {s : State} {x : List Claim} (w : Work s x) (v : s.lanesLawful) : Work (arbitrate s) x := by
  unfold arbitrate
  refine markLoop_work 4 ?_
  split
  · exact grantLoop_work 4 ((withdrawAll_same _).work ((withdrawStale_same s).work w))
      (withdrawAll_lawful _ (withdrawStale_lawful s v))
  · exact (withdrawStale_same s).work w

/-! ## Run end -/

theorem commitAll_same (s : State) (c : RunContext) : SameWork s (commitAll s c) :=
  SameWork.aside rfl rfl rfl rfl rfl

theorem detach_fields (s : State) (pair : Option PairId) :
    (detach s pair).pool.requests = s.pool.requests ∧ (∀ l, (detach s pair).lane l = s.lane l) ∧
    (∀ m, ((detach s pair).mask m).refCount = (s.mask m).refCount) ∧
    (∀ p, ((detach s pair).pair p).attachments =
      if pair = some p then (s.pair p).attachments - 1 else (s.pair p).attachments) ∧
    ∀ k, ((detach s pair).socket k).tags = (s.socket k).tags := by
  cases pair with
  | none => exact ⟨rfl, fun _ => rfl, fun _ => rfl, fun p => by simp [detach], fun _ => rfl⟩
  | some p =>
    have h := plannerIfFree_same (s.modPair p fun x => { x with attachments := x.attachments - 1 }) p
    refine ⟨h.requests, fun l => detach_lane s (some p) l, h.refCount, fun j => ?_, h.tags⟩
    refine (h.attachments j).trans ?_
    rw [modPair_pair]
    by_cases e : j = p
    · subst e; simp
    · have e' : ¬ p = j := fun h => e h.symm
      simp [e, e']

theorem runEndActions_work {s : State} {c : RunContext} {x : List Claim} (w : Work s (c.claim :: x)) :
    Work (runEndActions s c) x := by
  unfold runEndActions
  dsimp only
  refine (bumpYield_same _ _ _).work ?_
  have hd := detach_fields ((commitAll s c).modMask c.request.mask MaskEntry.release) c.pair
  refine w.finish (t := (detach _ c.pair).modSocket _ _) hd.1 hd.2.1 (fun m => ?_) hd.2.2.2.1 fun k => ?_
  · refine (hd.2.2.1 m).trans ?_
    rw [modMask_mask]
    by_cases e : m = c.request.mask
    · subst e; simp [RunContext.claim, MaskEntry.release]; rfl
    · simp [RunContext.claim, e]; rfl
  · rw [modSocket_socket]
    by_cases e : k = c.request.socket
    · subst e
      simp only [RunContext.claim, if_true]
      unfold Socket.endRun
      cases c.request.kind <;> rfl
    · rw [if_neg e]
      refine (hd.2.2.2.2 k).trans ?_
      exact (if_neg (c := k = c.claim.1.socket) e).symm

theorem ended_claim (c : RunContext) (e : Ending) (cause : Option AbortCause) : (c.ended e cause).claim = c.claim := rfl

theorem resume_work {s : State} {l : LaneId} {c : RunContext} {x : List Claim} (w : Work s x)
    (hn : (s.lane l).active = none) (hs : (s.lane l).slot = some c) : Work (resume s l c) x := by
  unfold resume
  dsimp only
  refine (comeToStart_same _ l _).work ?_
  have w1 := w.takeSlot (f := fun x => { x with slot := none }) hs rfl rfl
  have w2 := w1.limboSocket (Socket.run l)
  have ht : (((s.modLane l fun x => { x with slot := none }).modSocket c.request.socket (Socket.run l)).socket
      c.request.socket).tags = (.running, some c.request.ref, some l) := by
    have h0 := w.suspended l c hs
    simp only [Socket.tags, Prod.mk.injEq] at h0
    simp [Socket.tags, Socket.run, h0.2.1]
  have w3 := w2.putActive (l := l) (d := c.runOn s.now)
    (f := fun x => { x with active := some (c.runOn s.now), connected := some c.request.socket })
    (by simp [hn, RunContext.claim]) rfl rfl rfl (.inr rfl) ht
  refine SameWork.work ?_ w3
  refine ⟨rfl, fun _ => rfl, fun _ => rfl, fun _ => rfl, fun j => ?_, fun j => ?_, fun j => ?_⟩
  · by_cases e : j = l <;> simp [e]
  · by_cases e : j = l <;> simp [e]
  · by_cases e : j = l
    · simp [e]
    · simp [e]

theorem freeLane_work {s : State} {l : LaneId} {x : List Claim} (w : Work s x) (ho : ∀ j, j ≠ l → (s.lane j).lawful)
    (hn : (s.lane l).active = none) (hl : (s.lane l).slot = none → (s.lane l).lawful) : Work (freeLane s l) x := by
  unfold freeLane
  split
  · rename_i h
    refine arbitrate_work w fun j => ?_
    by_cases e : j = l
    · subst e; exact hl h
    · exact ho j e
  · rename_i c h
    refine arbitrate_work (resume_work w hn h) ?_
    refine comeToStart_lawful _ l .settle (c.runOn s.now) ?_ (by simp) fun j e => ?_
    · rw [modSocket_lane, modLane_lane, if_pos rfl]; exact ⟨rfl, rfl⟩
    · rw [modSocket_lane, modLane_lane, if_neg e]; exact ho j e

theorem endActive_work {s : State} {l : LaneId} {e : Ending} {cause : Option AbortCause} {x : List Claim}
    (w : Work s x) (ho : ∀ j, j ≠ l → (s.lane j).lawful) : Work (endActive s l e cause) x := by
  unfold endActive
  split
  · exact w
  · rename_i c hc
    have w1 : Work (s.modLane l Lane.release) ((c.ended e cause).claim :: x) :=
      w.takeActive (c := c) hc rfl rfl (.inr rfl)
    refine freeLane_work (runEndActions_work w1) (fun j h => ?_) ?_ fun h => ?_
    · rw [runEndActions_lane, modLane_lane, if_neg h]; exact ho j h
    · rw [runEndActions_lane, modLane_lane, if_pos rfl]; rfl
    · rw [runEndActions_lane, modLane_lane, if_pos rfl] at h ⊢
      have h' : (s.lane l).slot = none := h
      simp [Lane.lawful, Lane.release, Lane.discardWork, h']

theorem abortSlot_work {s : State} {l : LaneId} {cause : AbortCause} {x : List Claim} (w : Work s x)
    (v : s.lanesLawful) : Work (abortSlot s l cause) x := by
  unfold abortSlot
  split
  · exact w
  · rename_i c hc
    have w1 : Work (s.modLane l fun x => { x with slot := none }) ((c.ended .aborted (some cause)).claim :: x) :=
      w.takeSlot (c := c) hc rfl rfl
    exact arbitrate_work (runEndActions_work w1)
      (lanesLawful_of_eq (modLane_lawful s l _ v Lane.lawful.emptySlot) fun j => runEndActions_lane _ _ j)

theorem abortRun_work {s : State} {r : RequestRef} {cause : AbortCause} {x : List Claim} (w : Work s x)
    (v : s.lanesLawful) : Work (abortRun s r cause) x := by
  unfold abortRun
  split
  · exact endActive_work w fun j _ => v j
  · split
    · exact abortSlot_work w v
    · exact w

theorem abortWhere_work (test : Option RunContext → Bool) (cause : AbortCause) {s : State} (l : LaneId)
    {x : List Claim} (w : Work s x) (v : s.lanesLawful) : Work (abortWhere test cause s l) x := by
  unfold abortWhere
  have h : Work (if test (s.lane l).slot then abortSlot s l cause else s) x ∧
      (if test (s.lane l).slot then abortSlot s l cause else s).lanesLawful := by
    split
    · exact ⟨abortSlot_work w v, abortSlot_lawful s l cause v⟩
    · exact ⟨w, v⟩
  dsimp only
  split
  · exact endActive_work h.1 fun j _ => h.2 j
  · exact h.1

/-- What every operation of a list keeps together with the lane law, the whole list keeps. -/
theorem foldl_work {α : Type} (g : State → α → State) {x : List Claim}
    (h : ∀ s a, Work s x → s.lanesLawful → Work (g s a) x) (hv : ∀ s a, s.lanesLawful → (g s a).lanesLawful)
    (as : List α) (s : State) (w : Work s x) (v : s.lanesLawful) : Work (as.foldl g s) x := by
  induction as generalizing s with
  | nil => exact w
  | cons a as ih => exact ih _ (h s a w v) (hv s a v)

/-! ## Leaving and joining the pool -/

theorem leavePool_work {s : State} {q : Request} {x : List Claim} (w : Work s x) (hq : q ∈ s.pool.requests) :
    Work (leavePool s q) x := by
  have w1 := w.takeQueued (f := Pool.drop q.ref) hq rfl
  refine w1.finish rfl (fun _ => rfl) (fun m => ?_) (fun p => ?_) fun k => ?_
  · by_cases e : m = q.mask
    · subst e; simp [leavePool, MaskEntry.release]
    · simp [leavePool, e]
  · simp [leavePool]
  · by_cases e : k = q.socket
    · subst e; simp [leavePool, Socket.disengage, Socket.tags]
    · simp [leavePool, e]

theorem leaveAll_work (qs : List Request) (s : State) {x : List Claim} (w : Work s x) (hn : (qs.map Request.ref).Nodup)
    (hq : ∀ q ∈ qs, q ∈ s.pool.requests) : Work (leaveAll s qs) x := by
  induction qs generalizing s with
  | nil => exact w
  | cons q rest ih =>
    rw [List.map_cons, List.nodup_cons] at hn
    refine ih _ (leavePool_work w (hq q List.mem_cons_self)) hn.2 fun r hr => ?_
    show r ∈ s.pool.requests.filter fun a => !decide (a.ref = q.ref)
    refine List.mem_filter.mpr ⟨hq r (List.mem_cons_of_mem _ hr), ?_⟩
    have : r.ref ≠ q.ref := fun e => hn.1 (e ▸ List.mem_map_of_mem hr)
    simp [this]

/-- An IDLE socket has no live request. -/
theorem Work.idle {s : State} (w : Work s []) {k : SocketId} (h : (s.socket k).engagement = .idle) :
    ∀ q ∈ s.liveWith [], q.socket ≠ k := by
  intro q hq e
  subst e
  rw [liveWith_nil] at hq
  rcases List.mem_append.mp hq with h1 | h1
  · have := w.queued q h1
    simp [Socket.tags, h] at this
  · obtain ⟨c, hc, rfl⟩ := List.mem_map.mp h1
    obtain ⟨l, _, hl⟩ := List.mem_flatMap.mp hc
    rcases List.mem_append.mp hl with h2 | h2
    · have := w.running l c (by simpa using h2)
      simp [Socket.tags, h] at this
    · have := w.suspended l c (by simpa using h2)
      simp [Socket.tags, h] at this

theorem joinPool_work {s : State} {q : Request} (w : Work s []) (hi : (s.socket q.socket).engagement = .idle)
    (hr : ∀ r ∈ s.liveWith [], r.ref ≠ q.ref) : Work (joinPool s q) [] := by
  have hc : (joinPool s q).claims = s.claims := rfl
  have hp : ((joinPool s q).liveWith []).Perm (q :: s.liveWith []) := by
    unfold State.liveWith
    rw [hc]
    show ((s.pool.requests ++ [q]) ++ _).Perm _
    rw [List.append_assoc]
    exact List.perm_middle
  have hi' := w.idle hi
  have ht : (s.socket q.socket).tags = (.idle, none, none) := w.free _ hi'
  have hne : ∀ r, r ∈ s.liveWith [] → ((joinPool s q).socket r.socket).tags = (s.socket r.socket).tags := fun r h => by
    simp [joinPool, hi' r h]
  have hmem : ∀ c ∈ s.claims, c.1 ∈ s.liveWith [] := fun c h =>
    List.mem_append_right _ (List.mem_map.mpr ⟨c, List.mem_append_left _ h, rfl⟩)
  refine ⟨fun m => ?_, fun p => ?_, ?_, ?_, fun r h => ?_, fun l d h => ?_, fun l d h => ?_, fun k h => ?_, w.marks⟩
  · rw [hp.countP_eq, List.countP_cons, ← w.refs m]
    by_cases e : m = q.mask
    · subst e; simp [joinPool]
    · have e' : ¬ q.mask = m := fun h => e h.symm
      simp [joinPool, e, e']
  · rw [hc]; exact w.attached p
  · refine (hp.map Request.socket).nodup_iff.mpr ?_
    rw [List.map_cons, List.nodup_cons]
    refine ⟨fun h => ?_, w.sockets⟩
    obtain ⟨r, h1, h2⟩ := List.mem_map.mp h
    exact hi' r h1 h2
  · refine (hp.map Request.ref).nodup_iff.mpr ?_
    rw [List.map_cons, List.nodup_cons]
    refine ⟨fun h => ?_, w.names⟩
    obtain ⟨r, h1, h2⟩ := List.mem_map.mp h
    exact hr r h1 h2
  · have h' : r ∈ s.pool.requests ++ [q] := h
    rcases List.mem_append.mp h' with h1 | h1
    · rw [hne r (List.mem_append_left _ h1)]; exact w.queued r h1
    · have : r = q := by simpa using h1
      subst this
      simp only [Socket.tags, Prod.mk.injEq] at ht
      simp [joinPool, Socket.queue, Socket.tags, ht.2.2]
  · rw [hne d.request (hmem _ (hc ▸ mem_claims_active h))]
    exact w.running l d h
  · rw [hne d.request (hmem _ (hc ▸ mem_claims_slot h))]
    exact w.suspended l d h
  · have hk : q.socket ≠ k := h q (hp.mem_iff.mpr List.mem_cons_self)
    have : k ≠ q.socket := fun e => hk e.symm
    have h2 : ((joinPool s q).socket k).tags = (s.socket k).tags := by simp [joinPool, this]
    rw [h2]
    exact w.free k fun r hr => h r (hp.mem_iff.mpr (List.mem_cons_of_mem _ hr))

/-! ## Ids -/

/-- A request is live exactly when a live request has its name. -/
theorem live_iff (s : State) (r : RequestRef) : s.live r = true ↔ ∃ q ∈ s.liveRequests, q.ref = r := by
  have hq : (s.queued r).isSome = true ↔ ∃ q ∈ s.pool.requests, q.ref = r := by
    unfold State.queued
    rw [List.find?_isSome]; simp
  have ha : ∀ l : LaneId, (s.lane l).runs r = true ↔ ∃ c, (s.lane l).active = some c ∧ c.request.ref = r := fun l => by
    unfold Lane.runs; cases (s.lane l).active <;> simp
  have hs : ∀ l : LaneId, (s.lane l).holds r = true ↔ ∃ c, (s.lane l).slot = some c ∧ c.request.ref = r := fun l => by
    unfold Lane.holds; cases (s.lane l).slot <;> simp
  have all : ∀ l : LaneId, l ∈ allLanes := fun l => by fin_cases l <;> simp [allLanes]
  have h1 : (s.laneRunning r).isSome = true ↔ ∃ l c, (s.lane l).active = some c ∧ c.request.ref = r := by
    unfold State.laneRunning
    rw [List.find?_isSome]
    exact ⟨fun ⟨l, _, h⟩ => ⟨l, (ha l).mp h⟩, fun ⟨l, h⟩ => ⟨l, all l, (ha l).mpr h⟩⟩
  have h2 : (s.laneHolding r).isSome = true ↔ ∃ l c, (s.lane l).slot = some c ∧ c.request.ref = r := by
    unfold State.laneHolding
    rw [List.find?_isSome]
    exact ⟨fun ⟨l, _, h⟩ => ⟨l, (hs l).mp h⟩, fun ⟨l, h⟩ => ⟨l, all l, (hs l).mpr h⟩⟩
  unfold State.live
  rw [Bool.or_eq_true, Bool.or_eq_true, hq, h1, h2]
  unfold State.liveRequests State.runs Lane.contexts
  constructor
  · rintro ((⟨q, h, e⟩ | ⟨l, c, h, e⟩) | ⟨l, c, h, e⟩)
    · exact ⟨q, List.mem_append_left _ h, e⟩
    · exact ⟨c.request, List.mem_append_right _ (List.mem_map_of_mem (List.mem_flatMap.mpr ⟨l, all l, by simp [h]⟩)), e⟩
    · exact ⟨c.request, List.mem_append_right _ (List.mem_map_of_mem (List.mem_flatMap.mpr ⟨l, all l, by simp [h]⟩)), e⟩
  · rintro ⟨q, h, e⟩
    rcases List.mem_append.mp h with h | h
    · exact .inl (.inl ⟨q, h, e⟩)
    · obtain ⟨c, hc, rfl⟩ := List.mem_map.mp h
      obtain ⟨l, _, hl⟩ := List.mem_flatMap.mp hc
      rcases List.mem_append.mp hl with h3 | h3
      · exact .inl (.inr ⟨l, c, by simpa using h3, e⟩)
      · exact .inr ⟨l, c, by simpa using h3, e⟩

/-- The j-th id after i. -/
def idsAfter : Nat → RequestId → RequestId
  | 0, i => i
  | j + 1, i => idsAfter j (idAfter i)

theorem idAfter_toNat (i : RequestId) : (idAfter i).toNat = if 65534 ≤ i.toNat then 0 else i.toNat + 1 := by
  unfold idAfter
  have := i.isLt
  by_cases e : i = 65534
  · subst e; simp
  · have e' : i.toNat ≠ 65534 := fun h => e (BitVec.eq_of_toNat_eq h)
    rw [if_neg e, BitVec.toNat_add]
    split
    · have : i.toNat = 65535 := by omega
      simp [this]
    · simp; omega

theorem idsAfter_toNat (j : Nat) (i : RequestId) (hj : j < 17) :
    (idsAfter j i).toNat = if i.toNat + j < 65535 ∨ j = 0 then i.toNat + j else
      if i.toNat = 65535 then j - 1 else i.toNat + j - 65535 := by
  induction j generalizing i with
  | zero => simp [idsAfter]
  | succ n ih =>
    have hlt := i.isLt
    unfold idsAfter
    rw [ih _ (by omega), idAfter_toNat]
    repeat' split
    all_goals omega

/-- The result is the first id from i on that names no live request, when it is one of the first `fuel` (R88). -/
theorem nextFreeId_first (s : State) (n : StationId) (fuel j : Nat) (i : RequestId) (hj : j < fuel)
    (free : s.live ⟨n, idsAfter j i⟩ = false) (taken : ∀ k, k < j → s.live ⟨n, idsAfter k i⟩ = true) :
    nextFreeId s n fuel i = idsAfter j i := by
  induction fuel generalizing j i with
  | zero => omega
  | succ m ih =>
    unfold nextFreeId
    cases j with
    | zero =>
      have free : s.live ⟨n, i⟩ = false := free
      rw [if_neg (by rw [free]; decide)]; rfl
    | succ j =>
      have first : s.live ⟨n, i⟩ = true := taken 0 (by omega)
      rw [if_pos first]
      exact ih j _ (by omega) free fun k hk => taken (k + 1) (by omega)

/-- One of 17 ids in a row names no live request: a station has at most 16 of them, one a socket (R88). -/
theorem exists_freeId {s : State} (w : Work s []) (n : StationId) (i : RequestId) :
    ∃ j, j < 17 ∧ s.live ⟨n, idsAfter j i⟩ = false := by
  by_contra hc
  have hl : ∀ j, j < 17 → s.live ⟨n, idsAfter j i⟩ = true := fun j hj => by
    by_contra hf
    exact hc ⟨j, hj, by simpa using hf⟩
  have hnd : ((List.range 17).map fun j => (⟨n, idsAfter j i⟩ : RequestRef)).Nodup := by
    refine List.Nodup.map_on (fun a ha b hb h => ?_) List.nodup_range
    have ha := List.mem_range.mp ha
    have hb := List.mem_range.mp hb
    have h1 : (idsAfter a i).toNat = (idsAfter b i).toNat := by injection h with _ h; rw [h]
    rw [idsAfter_toNat a i ha, idsAfter_toNat b i hb] at h1
    have := i.isLt
    split at h1 <;> split at h1 <;> (try split at h1) <;> omega
  have hsub : ((List.range 17).map fun j => (⟨n, idsAfter j i⟩ : RequestRef)) ⊆ s.liveRequests.map Request.ref := by
    intro x hx
    obtain ⟨j, hj, rfl⟩ := List.mem_map.mp hx
    obtain ⟨q, hq, e⟩ := (live_iff s _).mp (hl j (List.mem_range.mp hj))
    exact List.mem_map.mpr ⟨q, hq, e⟩
  have h17 := (List.subperm_of_subset hnd hsub).length_le
  have h16 : (s.liveRequests.map Request.socket).length ≤ 16 := by
    have := w.sockets
    rw [liveWith_nil] at this
    simpa using this.length_le_card
  simp at h17 h16
  omega

/-- The first of them: every id before it names a live request. -/
theorem exists_firstFreeId {s : State} (w : Work s []) (n : StationId) (i : RequestId) :
    ∃ j, j < 17 ∧ s.live ⟨n, idsAfter j i⟩ = false ∧ ∀ k, k < j → s.live ⟨n, idsAfter k i⟩ = true := by
  obtain ⟨m, hm, free⟩ := exists_freeId w n i
  induction m using Nat.strong_induction_on with
  | _ m ih =>
    by_cases h : ∀ k, k < m → s.live ⟨n, idsAfter k i⟩ = true
    · exact ⟨m, hm, free, h⟩
    · obtain ⟨k, hk⟩ := not_forall.mp h
      obtain ⟨hlt, hf⟩ := Classical.not_imp.mp hk
      exact ih k hlt (by omega) (by simpa using hf)

/-- A SUBMIT's id names no live request (R88). -/
theorem nextFreeId_free {s : State} (w : Work s []) (n : StationId) (i : RequestId) :
    ∀ r ∈ s.liveWith [], r.ref ≠ ⟨n, nextFreeId s n 17 i⟩ := by
  intro r hr he
  rw [liveWith_nil] at hr
  obtain ⟨j, hj, free, taken⟩ := exists_firstFreeId w n i
  rw [nextFreeId_first s n 17 j i hj free taken] at he
  rw [(live_iff s _).mpr ⟨r, hr, he⟩] at free
  cases free

/-! ## Going on, suspension, and the events offered to lanes -/

theorem advance_work {s : State} {l : LaneId} {x : List Claim} (w : Work s x) (v : s.lanesLawful) :
    Work (advance s l) x := by
  unfold advance
  split
  · exact w
  · rename_i c h
    split
    · exact endActive_work w fun j _ => v j
    · rename_i y _
      have h1 : SameWork s (s.modLane l (Lane.modActive fun r => { r with stage := y })) :=
        SameWork.modLane s l _ (by simp only [Lane.modActive, Option.map_map]; rfl) rfl (.inr rfl)
      refine arbitrate_work ((h1.trans (comeToStart_same _ l _)).work w) ?_
      refine comeToStart_lawful _ l _ { c with stage := y } ?_ ?_ fun j e => ?_
      · rw [modLane_lane, if_pos rfl]
        exact ⟨by simp [Lane.modActive, h], ((v l).manned h).2⟩
      · cases y <;> simp [startFor]
      · rw [modLane_lane, if_neg e]; exact v j

theorem suspend_work {s : State} {l : LaneId} {c d : RunContext} {q : Request} {m : Mask} {x : List Claim}
    (w : Work s x) (hc : (s.lane l).active = some d) (he : d.claim = c.claim) (hs : (s.lane l).slot = none)
    (hq : q ∈ s.pool.requests) : Work (suspend s l c q m) x := by
  unfold suspend
  dsimp only
  have w1 := w.takeActive (f := Lane.release) hc rfl rfl (.inr rfl)
  have w2 := w1.limboSocket fun k => { k with engagement := .suspended, lane := none }
  have hr : d.request = c.request := by
    have := congrArg Prod.fst he; exact this
  have ht : (((s.modLane l Lane.release).modSocket d.claim.1.socket fun k =>
      { k with engagement := .suspended, lane := none }).socket d.claim.1.socket).tags =
      (.suspended, some d.claim.1.ref, none) := by
    have h0 := w.running l d hc
    simp only [Socket.tags, Prod.mk.injEq] at h0
    simp only [modSocket_socket, if_true, Socket.tags]
    show (_, _, _) = _
    have : ((s.modLane l Lane.release).socket d.claim.1.socket).request = some d.claim.1.ref := h0.2.1
    rw [this]
  have w3 := w2.putSlot (l := l)
    (d := { c.pause s.now with disturbances := { (c.pause s.now).disturbances with preempted := true } })
    (f := fun y => { y with
      slot := some { c.pause s.now with disturbances := { (c.pause s.now).disturbances with preempted := true } }
      mark := none })
    (by rw [modSocket_lane, modLane_lane, if_pos rfl]; exact hs) rfl he.symm rfl rfl ht
  refine dispatch_work (SameWork.work ?_ w3) hq ?_
  · refine ⟨rfl, fun _ => rfl, fun _ => rfl, fun k => ?_, fun j => ?_, fun j => ?_, fun j => ?_⟩
    · simp [RunContext.claim, hr]
    · by_cases e : j = l <;> simp [e]
    · by_cases e : j = l <;> simp [e]
    · by_cases e : j = l <;> simp [e]
  · rw [modSocket_lane, modLane_lane, if_pos rfl]; rfl

theorem shaken_claim (c : RunContext) : c.shaken.claim = c.claim := by
  unfold RunContext.shaken; cases c.mask.policy <;> rfl

theorem abandon_work {s : State} {l : LaneId} {c : RunContext} {start : PendingStart} {x : List Claim} (w : Work s x)
    (v : s.lanesLawful) (hc : (s.lane l).active = some c) : Work (abandon s l c start) x := by
  unfold abandon
  dsimp only
  have h1 : SameWork s (bumpYield (s.modLane l fun x => { x.discardWork with active := some c.shaken })
      c.request.socket disturbedIndex) :=
    (SameWork.modLane s l _ (by simp [hc, shaken_claim]) rfl (.inr rfl)).trans (bumpYield_same _ _ _)
  split
  · refine endActive_work (h1.work w) fun j e => ?_
    rw [bumpYield_lane, modLane_lane, if_neg e]; exact v j
  · exact (h1.trans (comeToStart_same _ l _)).work w

theorem motionAt_work {s : State} {l : LaneId} {x : List Claim} (w : Work s x) (v : s.lanesLawful) :
    Work (motionAt s l) x := by
  unfold motionAt
  split
  · exact abandon_work w v ‹_›
  · exact abandon_work w v ‹_›
  · exact ((SameWork.modLane s l Lane.discardWork rfl rfl (.inr rfl)).trans (comeToStart_same _ l _)).work w
  · exact w

/-! ## Pair events -/

theorem enterFault_work {s : State} {p : PairId} {x : List Claim} (w : Work s x) (v : s.lanesLawful) :
    Work (enterFault s p) x := by
  unfold enterFault
  dsimp only
  refine (plannerPass_same _).work (foldl_work _ (fun s l w v => abortWhere_work _ _ l w v)
    (fun s l v => abortWhere_lawful _ _ s l v) _ _ ?_ v)
  exact ((SameWork.modPair s p Pair.faulted rfl).trans (latchAll_same _ _)).work w

theorem failAttempt_work {s : State} {p : PairId} {why : PairFailure} {x : List Claim} (w : Work s x)
    (v : s.lanesLawful) : Work (failAttempt s p why) x := by
  have h := SameWork.modPair s p (Pair.failed why) rfl
  unfold failAttempt
  dsimp only
  split
  · exact enterFault_work (h.work w) v
  · exact ((h.trans (SameWork.modPair _ p (Pair.program p) rfl)).trans (linkGrant_same _)).work w

theorem enterReady_work {s : State} {p : PairId} {x : List Claim} (w : Work s x) (v : s.lanesLawful) :
    Work (enterReady s p) x := by
  have h := ((SameWork.modPair s p Pair.readied rfl).trans (SameWork.foldl _ (readyAt_same p) allLanes _)).work w
  have h2 := arbitrate_work h (foldl_lawful _ (readyAt_lawful p) allLanes _ v)
  unfold enterReady
  dsimp only
  split
  · exact (plannerPass_same _).work h2
  · exact h2

/-! ## The law itself -/

/-- The law of the work gives `Work`. -/
theorem workOfLaw {s : State} (h : s.workLaw) : Work s [] := by
  obtain ⟨hm, hp, ⟨h1, h2, h3, h4, h5⟩, _, hn, hk⟩ := h
  refine ⟨fun m => ?_, fun p => ?_, ?_, ?_, fun q hq => ?_, fun l c hc => ?_, fun l c hc => ?_, fun k h => ?_, hk⟩
  · rw [liveWith_nil, hm m, List.countP_eq_length_filter]
  · rw [List.append_nil, claims_runs, List.countP_map, hp p, List.countP_eq_length_filter]; rfl
  · rw [liveWith_nil]; exact h1
  · rw [liveWith_nil]; exact hn
  · obtain ⟨a, b, c⟩ := h2 q hq; simp [Socket.tags, a, b, c]
  · obtain ⟨a, b, d⟩ := h3 l c hc; simp [Socket.tags, a, b, d]
  · obtain ⟨a, b, d⟩ := h4 l c hc; simp [Socket.tags, a, b, d]
  · rw [liveWith_nil] at h
    obtain ⟨a, b, d⟩ := h5 k h; simp [Socket.tags, a, b, d]

/-- `Work` and the law of lanes give the law of the work. -/
theorem lawOfWork {s : State} (w : Work s []) (v : s.lanesLawful) : s.workLaw := by
  have tags : ∀ {k : SocketId} {a : Engagement} {b : Option RequestRef} {c : Option LaneId},
      (s.socket k).tags = (a, b, c) →
      (s.socket k).engagement = a ∧ (s.socket k).request = b ∧ (s.socket k).lane = c := fun h => by
    simpa [Socket.tags] using h
  refine ⟨fun m => ?_, fun p => ?_, ⟨?_, fun q hq => tags (w.queued q hq), fun l c hc => tags (w.running l c hc),
    fun l c hc => tags (w.suspended l c hc), fun k h => tags (w.free k (by rw [liveWith_nil]; exact h))⟩,
    fun l k => ⟨fun h => ?_, fun h => ?_⟩, ?_, w.marks⟩
  · rw [← List.countP_eq_length_filter, ← liveWith_nil]; exact w.refs m
  · have := w.attached p
    rw [List.append_nil, claims_runs, List.countP_map] at this
    rw [this, List.countP_eq_length_filter]; rfl
  · rw [← liveWith_nil]; exact w.sockets
  · rw [(v l).2.2.2.2] at h
    cases hc : (s.lane l).active with
    | none => simp [hc] at h
    | some c =>
      have : c.request.socket = k := by simpa [hc] using h
      exact this ▸ (tags (w.running l c hc)).2.2
  · by_cases hf : ∀ q ∈ s.liveWith [], q.socket ≠ k
    · have := (tags (w.free k hf)).2.2; rw [this] at h; cases h
    · push Not at hf
      obtain ⟨q, hq, rfl⟩ := hf
      rw [liveWith_nil] at hq
      rcases List.mem_append.mp hq with h1 | h1
      · have := (tags (w.queued q h1)).2.2; rw [this] at h; cases h
      · obtain ⟨c, hc, rfl⟩ := List.mem_map.mp h1
        obtain ⟨j, _, hj⟩ := List.mem_flatMap.mp hc
        rcases List.mem_append.mp hj with h2 | h2
        · have ha : (s.lane j).active = some c := by simpa using h2
          have := (tags (w.running j c ha)).2.2
          rw [this] at h
          have : j = l := Option.some.inj h
          subst this
          rw [(v j).2.2.2.2, ha]; rfl
        · have := (tags (w.suspended j c (by simpa using h2))).2.2; rw [this] at h; cases h
  · rw [← liveWith_nil]; exact w.names

end Sys2Proof.Machine
end

