-- ==== Sys2Proof/Laws/WorkEvents.lean ====
section
/-!
SUPPORT. The `Work` lemmas of the operations that one command or event uses, and the work of the reset state.
-/
namespace Sys2Proof.Machine

/-- The law of the work is blind to whatever is not the pool, masks, pairs, sockets and lanes. -/
theorem Work.aside {s t : State} {x : List Claim} (w : Work s x) (hr : t.pool.requests = s.pool.requests)
    (hm : t.masks = s.masks) (hp : t.pairs = s.pairs) (hk : t.sockets = s.sockets) (hl : t.lanes = s.lanes) :
    Work t x := (SameWork.aside hr hm hp hk hl).work w

theorem takeCommand_work {n : StationId} {s t : State} {b : State × Answer} (w : Work s [])
    (h : takeCommand n s b = .next t) (hb : Work b.1 []) : Work t [] :=
  takeCommand_keeps (P := fun t => Work t []) h w (hb.aside rfl rfl rfl rfl rfl)

theorem fixedLength_work {len : Nat} {payload : List Byte} {s : State} {b : State × Answer} (w : Work s [])
    (hb : Work b.1 []) : Work (fixedLength len payload s b).1 [] := by
  unfold fixedLength; split
  · exact hb
  · exact w

theorem ownedSocket_work {n : StationId} {i : Nat} {s : State} {f : SocketId → State × Answer} (w : Work s [])
    (hf : ∀ k, Work (f k).1 []) : Work (ownedSocket n i s f).1 [] := by
  unfold ownedSocket
  split
  · exact w
  · split
    · exact hf _
    · exact w

theorem resetStep_work {n : StationId} {x : ResetStep} {s t a : State} (w : Work s [])
    (h : resetStep n x s a = .next t) (ha : Work a []) : Work t [] := by
  unfold resetStep at h
  split at h
  · injection h with h; exact h ▸ ha
  · injection h with h; exact h ▸ w

theorem queuedOf_mem {s : State} {k : SocketId} {q : Request} (h : s.queuedOf k = some q) : q ∈ s.pool.requests := by
  unfold State.queuedOf at h
  split at h
  · exact queued_mem s h
  · cases h

theorem dropOrAbort_work {s : State} {k : SocketId} {cause : AbortCause} (w : Work s []) (v : s.lanesLawful) :
    Work (dropOrAbort s k cause) [] := by
  unfold dropOrAbort
  split
  · exact arbitrate_work (leavePool_work w (queuedOf_mem ‹_›)) (lanesLawful_of_eq v fun _ => rfl)
  · split
    · exact abortRun_work w v
    · exact w

theorem takeSupplyFault_work {s : State} {k : SocketId} (w : Work s []) (v : s.lanesLawful) :
    Work (takeSupplyFault s k) [] :=
  dropOrAbort_work
    (((SameWork.modSocket s k (Socket.unpower .fault) fun _ => rfl).trans (noticeSocket_same _ _)).work w)
    (lanesLawful_of_eq v fun j => noticeSocket_lane _ _ j)

theorem acceptRequest_work {s : State} {n : StationId} {k : SocketId} {kind : Kind} {m : MaskId} {c : Mask}
    (w : Work s []) (v : s.lanesLawful) (hi : (s.socket k).engagement = .idle) :
    Work (acceptRequest s (requestFor s n k kind m c)) [] := by
  have w1 := joinPool_work (q := requestFor s n k kind m c) w hi (nextFreeId_free w n _)
  have v1 : (joinPool s (requestFor s n k kind m c)).lanesLawful := lanesLawful_of_eq v fun _ => rfl
  unfold acceptRequest
  dsimp only
  split
  · exact arbitrate_work ((plannerPass_same _).work w1) (lanesLawful_of_eq v1 fun j => plannerPass_lane _ j)
  · exact arbitrate_work w1 v1

theorem cancelAt_work {s : State} {x : Place} {r : RequestRef} (w : Work s []) (v : s.lanesLawful)
    (h : s.place r = some x) : Work (cancelAt s x) [] := by
  cases x with
  | pool q =>
    have : s.queued r = some q := by unfold State.place at h; split at h <;> simp_all
    exact arbitrate_work (leavePool_work w (queued_mem s this)) (lanesLawful_of_eq v fun _ => rfl)
  | lane l => exact endActive_work w fun j _ => v j
  | slot l => exact abortSlot_work w v

theorem takeReadback_work {s : State} {p : PairId} {a : SynthAddr} {words : List Word16} (w : Work s [])
    (v : s.lanesLawful) : Work (takeReadback s p a words) [] := by
  unfold takeReadback
  split
  · split
    · split
      · exact (enterLocking_same _ _).work w
      · exact w
    · exact failAttempt_work w v
  · exact w

/-- A change of the active run that keeps its claim keeps the law of the work. -/
theorem rerun_same {s : State} {l : LaneId} {c d : RunContext} (hc : (s.lane l).active = some c)
    (hd : d.claim = c.claim) (f : Lane → Lane) (ha : (f (s.lane l)).active = some d)
    (hs : (f (s.lane l)).slot = (s.lane l).slot) (hm : (f (s.lane l)).mark = (s.lane l).mark) :
    SameWork s (s.modLane l f) :=
  SameWork.modLane s l f (by simp [ha, hc, hd]) (by rw [hs]) (.inr hm)

theorem takeWindow_claim (c : RunContext) (e : Etu) : (c.takeWindow e).claim = c.claim := by
  unfold RunContext.takeWindow
  split <;> try rfl
  unfold RunContext.takePullHigh
  split <;> rfl

theorem rerun_lawful {s : State} {l : LaneId} {c d : RunContext} (v : s.lanesLawful) (hc : (s.lane l).active = some c)
    (hd : d.request = c.request) (g : Lane → Etu) (i : Lane → Option Nat) :
    (s.modLane l fun x => { x with etu := g x, active := some d, interval := i x }).lanesLawful := by
  refine modLane_lawful s l _ v fun ⟨h1, h2, h3, h4, h5⟩ => ⟨?_, fun h => absurd h (by simp), h3, h4, ?_⟩
  · simp only [reduceCtorEq, iff_false]; rw [h1, hc]; simp
  · simp only [h5, hc, Option.map_some, hd]

theorem closeWindow_work {s : State} {l : LaneId} {e : Etu} (w : Work s []) (v : s.lanesLawful) :
    Work (closeWindow s l e) [] := by
  unfold closeWindow
  split
  · exact (SameWork.modLane s l _ rfl rfl (.inr rfl)).work w
  · rename_i c hc
    have hr := congrArg Prod.fst (takeWindow_claim c e)
    have h : SameWork s (s.modLane l fun x => { x with etu := e.close, active := some (c.takeWindow e) }) :=
      rerun_same hc (takeWindow_claim c e) _ rfl rfl rfl
    have hv := rerun_lawful (s := s) (l := l) v hc hr (fun _ => e.close) Lane.interval
    dsimp only
    split
    · exact endActive_work (h.work w) fun j _ => hv j
    · exact advance_work (h.work w) hv

theorem acceptEdge_work {s : State} {l : LaneId} {level : Bool} {x : Stamp} (w : Work s []) (v : s.lanesLawful) :
    Work (acceptEdge s l level x) [] := by
  unfold acceptEdge
  dsimp only
  split
  · exact closeWindow_work w v
  · exact (SameWork.modLane s l _ rfl rfl (.inr rfl)).work w

theorem inputTransition_work {s : State} {l : LaneId} {level : Bool} {x : Stamp} (w : Work s []) (v : s.lanesLawful) :
    Work (inputTransition s l level x) [] := by
  unfold inputTransition
  dsimp only
  repeat' split
  all_goals first
    | exact w
    | exact (SameWork.modLane s l _ rfl rfl (.inr rfl)).work w
    | exact acceptEdge_work w v

theorem countSegment_claim (s : State) (v : Vector CrossSpectrum 8) (c : RunContext) :
    (countSegment s v c).1.claim = c.claim := by
  unfold countSegment
  dsimp only
  split <;> rfl

/-- A request that a lane's mark names is in the pool, and the lane has a mark. -/
theorem markedRequest_mem {s : State} {l : LaneId} {q : Request} {m : Mask} (h : s.markedRequest l = some (q, m)) :
    (s.lane l).mark ≠ none ∧ q ∈ s.pool.requests := by
  unfold State.markedRequest at h
  split at h
  · cases h
  · rename_i r hr
    split at h
    · cases h
    · rename_i q' hq
      cases hx : s.maskFor q' with
      | none => rw [hx] at h; cases h
      | some m' =>
        rw [hx] at h
        have : q' = q := by simpa using congrArg (Option.map Prod.fst) h
        exact ⟨by rw [hr]; simp, this ▸ queued_mem s hq⟩

theorem completeCounted_work {s : State} {l : LaneId} {v : Vector CrossSpectrum 8} {c : RunContext} (w : Work s [])
    (hv : s.lanesLawful) (hc : (s.lane l).active = some c) : Work (completeCounted s l v c) [] := by
  have hcl := countSegment_claim s v c
  have hl := rerun_lawful (s := s) (l := l) hv hc (congrArg Prod.fst hcl) Lane.etu fun _ => none
  have hs : SameWork s (s.modLane l fun x => { x with active := some (countSegment s v c).1, interval := none }) :=
    rerun_same hc hcl _ rfl rfl rfl
  have w1 := hs.work w
  unfold completeCounted
  dsimp only
  split
  · exact endActive_work w1 fun j _ => hl j
  · unfold afterCount
    split
    · rename_i q m hm
      obtain ⟨hk, hq⟩ := markedRequest_mem hm
      exact arbitrate_work (suspend_work w1 (d := (countSegment s v c).1) (by simp) rfl (w1.marks l hk) hq)
        (suspend_lawful _ l _ _ _ hl)
    · exact arbitrate_work ((comeToStart_same _ _ _).work w1) (comeToStart_keeps _ l _ (by simp) hl)

theorem timed_active {st : LaneState} {l : Lane} {c : RunContext} {t : Nat} (h : l.timed st = some (c, t)) :
    l.active = some c := by
  unfold Lane.timed at h
  split at h
  · rename_i hh _
    split at h
    · rw [hh]; simpa using congrArg (Option.map Prod.fst) h
    · cases h
  · cases h

theorem becomeQuiet_work {s : State} (w : Work s []) (v : s.lanesLawful) : Work (becomeQuiet s) [] := by
  have w1 : Work (s.modMonitor fun m => { m with quiet := true, quietTimer := none }) [] :=
    w.aside rfl rfl rfl rfl rfl
  exact arbitrate_work ((SameWork.foldl _ quietAt_same allLanes _).work w1)
    (foldl_lawful _ quietAt_lawful allLanes _ (lanesLawful_of_eq v fun _ => rfl))

/-- An abort event offered to every lane keeps the law of the work and of lanes. -/
theorem abortAll_work {test : Option RunContext → Bool} {cause : AbortCause} {s : State} (w : Work s [])
    (v : s.lanesLawful) : Work (allLanes.foldl (abortWhere test cause) s) [] ∧
      (allLanes.foldl (abortWhere test cause) s).lanesLawful :=
  ⟨foldl_work _ (fun _ l w v => abortWhere_work _ _ l w v) (fun s l v => abortWhere_lawful _ _ s l v) _ _ w v,
   foldl_lawful _ (abortWhere_lawful _ _) _ _ v⟩

theorem setSockets_same (s : State) (v : Vector Socket 16) (h : ∀ k : SocketId, v[k].tags = (s.socket k).tags) :
    SameWork s { s with sockets := v } := { SameWork.refl s with tags := fun k => h k }

/-- After a device reset there is no work. -/
theorem ofReset_work (x : Lines) (q : List Instr) : Work (State.ofReset x q) [] := by
  have hc : (State.ofReset x q).claims = [] := by
    simp [State.claims, allLanes, Lane.claims, Lane.contexts, State.ofReset, State.lane, Lane.reset]
  have hl : (State.ofReset x q).liveWith [] = [] := by
    simp [State.liveWith, hc]; rfl
  refine ⟨fun m => ?_, fun p => ?_, ?_, ?_, fun q hq => ?_, fun l c h => ?_, fun l c h => ?_, fun k _ => ?_,
    fun l h => ?_⟩
  · rw [hl]; simp [State.ofReset, State.mask, MaskEntry.reset]
  · rw [hc]; simp [State.ofReset, State.pair, Pair.reset]
  · rw [hl]; exact List.nodup_nil
  · rw [hl]; exact List.nodup_nil
  · simp [State.ofReset, Pool.reset] at hq
  · simp [State.ofReset, State.lane, Lane.reset] at h
  · simp [State.ofReset, State.lane, Lane.reset] at h
  · simp [State.ofReset, State.socket, Socket.reset, Socket.tags]
  · simp [State.ofReset, State.lane, Lane.reset] at h

end Sys2Proof.Machine
end

