-- ==== Sys2Proof/Tests/Slice0.lean ====
section
/-!
SUPPORT. The model's own tests: a term for each check of WellFormed that the check refuses, frames read from bytes, the
spec's worked examples, and for each statement of Certificates/ a state and operands that meet its hypotheses.
-/
namespace Sys2Proof.Tests

/- Each of these evaluates in the kernel, which waits for everything before it: one at a time keeps the threads few. -/
set_option Elab.async false

open Sys2Proof Sys2Proof.Machine

/-! ## Well-formedness: an ill-formed term for each check -/

def overlong : List Byte := List.replicate 121 0

theorem test_overlong_payloads_refused :
    ((([.getStatus 0 overlong, .ackNotices 0 overlong, .setPortMode 0 overlong, .stationReset 0 overlong,
      .claimSocket 0 overlong, .releaseSocket 0 overlong, .powerSocketOn 0 (0 :: 1 :: overlong),
      .powerSocketOff 0 overlong, .setEfc 0 overlong, .querySocket 0 overlong, .setQuietTime 0 overlong,
      .writeMask 0 overlong] : List Instr).all fun c => !c.wellFormed) &&
    (([.eraseMask 0 overlong, .readMask 0 overlong, .tunePair 0 overlong, .queryPair 0 overlong, .submit 0 overlong,
      .cancel 0 overlong, .queryRequest 0 overlong, .queryLane 0 overlong, .readRecord 0 overlong,
      .readCounters 0 overlong, .counterControl 0 overlong, .unknownCommand 0 0xEE overlong] : List Instr).all
        fun c => !c.wellFormed)) = true := by decide +kernel

theorem test_power_setting_chooses_the_row :
    (Instr.powerSocketOn 0 [3, 0]).wellFormed = false ∧ (Instr.powerSocketOff 0 [3, 1]).wellFormed = false ∧
    (Instr.powerSocketOn 0 [3, 1]).wellFormed = true ∧ (Instr.powerSocketOff 0 [3, 0]).wellFormed = true := by
  decide +kernel

theorem test_known_code_is_not_unknown :
    (Instr.unknownCommand 0 0x12 []).wellFormed = false ∧ (Instr.unknownCommand 0 0xEE []).wellFormed = true := by
  decide +kernel

theorem test_length_error_needs_a_length_above_120 :
    (Instr.frameLengthError 0 120).wellFormed = false ∧ (Instr.frameLengthError 0 121).wellFormed = true := by
  decide +kernel

theorem test_readback_has_six_words :
    (Instr.rmlReadIncrementComplete [1, 2, 3, 4, 5]).wellFormed = false ∧
    (Instr.rmlReadIncrementComplete [1, 2, 3, 4, 5, 6]).wellFormed = true := by decide +kernel

/-- A level of z tenths in every decade. -/
def flat (z : Int) : Vector Level 8 := Vector.replicate 8 ⟨z, 1⟩

theorem test_levels_have_denominators :
    (Instr.calibrationCompletion 0 (Vector.replicate 8 ⟨-1500, 0⟩)).wellFormed = false ∧
    (Instr.calibrationCompletion 0 (flat (-1500))).wellFormed = true := by decide +kernel

/-! ## Frames -/

theorem test_frames_are_read :
    commandOfBytes 1 [0x12, 2, 3, 1] = some (.powerSocketOn 1 [3, 1]) ∧
    commandOfBytes 1 [0x12, 2, 3, 0] = some (.powerSocketOff 1 [3, 0]) ∧
    commandOfBytes 2 [0x40, 5, 4, 1, 7, 0, 12, 0xAA] = some (.submit 2 [4, 1, 7, 0, 12]) ∧
    commandOfBytes 2 [0x40, 5, 4, 1] = none ∧ commandOfBytes 0 [0x01] = none ∧
    commandOfBytes 0 [0x55, 1, 9] = some (.unknownCommand 0 0x55 [9]) ∧
    commandOfBytes 3 [0x20, 121] = some (.frameLengthError 3 121) := by decide +kernel

/-! ## Worked examples -/

/-- P1 after the tuning of the worked example of 04: 125 MHz, tuning count 5, attempt 0. -/
def tuned125 : Pair :=
  { Pair.reset with state := .programming, tuned := some 125000000, range := some .range3, tunings := 5 }

theorem test_tuning_image_of_the_worked_example :
    tuned125.image .a = [7, 22848, 1907, 5, 0, 40769] ∧ tuned125.image .b = [15, 22848, 1907, 5, 0, 40761] := by
  decide +kernel

theorem test_offset_of_the_worked_example : offsetPpb 4096 819199402 10000000 = 730 := by decide +kernel

/-- The statistics of the JITTER worked example of 07; the sum of squares is S² / N + 2304. -/
def jitterStats : PeriodStats :=
  ⟨51200128, 51200128 * 51200128 / 256 + 2304, some 199996, some 200005, 25651264⟩

theorem test_jitter_of_the_worked_example :
    rmsJitter 256 jitterStats.span jitterStats.squares = 1500 ∧ ppJitter jitterStats = 4500 ∧
    dutyCycle jitterStats = 5010 := by decide +kernel

theorem test_pull_of_the_worked_example :
    pullPpm (819216384, 4096) (819183616, 4096) 10000000 = 40 := by decide +kernel

/-- The WRITE MASK payload of the worked example of 02: mask 7, 100 MHz, jitter part, bands 3–5 and 6–7. -/
def mask7 (nominal : List Byte) (glitchSetting : Byte) : List Byte :=
  [7] ++ nominal ++ [2, 0x58, 0x02, 0x2C, 0x01, 1, 3, 3, 0, 0, glitchSetting, 12, 3] ++
  [8, 0xD0, 0x07, 0x88, 0x13, 0, 0, 0] ++ [4, 12, 20, 30, 2, 3, 5, 0xBA, 0xFA, 6, 7, 0x8E, 0xF9]

def mhz100 : List Byte := [0x00, 0xE1, 0xF5, 0x05]

def mhz20 : List Byte := [0x00, 0x2D, 0x31, 0x01]

theorem test_mask_checks_of_the_worked_example :
    (mask7 mhz100 8).length = 39 ∧
    bodyError (mask7 mhz100 11) = some ⟨.range, [12, 255]⟩ ∧ bodyError (mask7 mhz100 8) = none ∧
    bodyError (mask7 mhz20 8) = some ⟨.range, [22, 1]⟩ := by decide +kernel

theorem test_mask_body_reads_back : maskBody (maskFields (mask7 mhz100 8)) = (mask7 mhz100 8).drop 1 := by decide +kernel

/-- The mask of the two-band worked example of 01, at 10 MHz, with a pull part. -/
def mask10 : Mask where
  nominal := 10000000
  tolerance := 2
  warmUp := 600
  runLimit := 300
  policy := .repeatWork
  retryLimit := 3
  preemptible := true
  failFast := false
  copySet := #v[false, false, true, false]
  edgeMode := .rising
  glitchSetting := 2
  periodsExp := 12
  jitter := some ⟨8, 2000, 5000, 0⟩
  band := some ⟨4, 12, 20, 30, [⟨2, 3, -1350⟩, ⟨4, 6, -1650⟩]⟩
  pull := some ⟨1000, 3000, 10, 30⟩

theorem test_mask10_is_valid : mask10.valid = true := by decide +kernel

def band10 : BandPart := ⟨4, 12, 20, 30, [⟨2, 3, -1350⟩, ⟨4, 6, -1650⟩]⟩

/-- The floor table of P0 in the worked example of 01. -/
def floors10 : Vector Int 8 := #v[-1000, -1000, -1420, -1480, -1550, -1570, -1590, -1000]

/-- The bands of the worked example with their last estimates. -/
def bands10 (e0 e1 : Int) : List BandRun :=
  [⟨⟨2, 3, -1350⟩, .undecided, some e0, none⟩, ⟨⟨4, 6, -1650⟩, .undecided, some e1, none⟩]

def states (bs : List BandRun) : List (BandState × Option Int) := bs.map fun b => (b.state, b.floor)

theorem test_rounds_of_the_worked_example :
    states (roundBands band10 floors10 3 (bands10 (-1410) (-1610))) =
      [(.undecided, some (-1465)), (.undecided, some (-1595))] ∧
    states (roundBands band10 floors10 4 (bands10 (-1415) (-1631))) =
      [(.pass, some (-1480)), (.undecided, some (-1610))] ∧
    states (roundBands band10 floors10 9 (bands10 (-1416) (-1672))) =
      [(.pass, some (-1555)), (.pass, some (-1685))] ∧
    states (roundBands band10 floors10 12 (bands10 (-1416) (-1662))) =
      [(.pass, some (-1600)), (.marginal, some (-1730))] := by decide +kernel

/-- One segment's cross-spectrum in every decade, of modulus 10^-(40 - n): -10·(40 - n) dBc/Hz. -/
def tone (n : Nat) : Vector CrossSpectrum 8 := Vector.replicate 8 ⟨10 ^ n, 0⟩

theorem test_estimate_is_the_highest_level_rounded :
    averagedLevel ⟨10 ^ 26, 0⟩ 1 = -1400 ∧ averagedLevel ⟨10 ^ 26, 0⟩ 2 = -1430 ∧
    averagedLevel ⟨-3 * 10 ^ 25, 4 * 10 ^ 25⟩ 1 = -1430 ∧ averagedLevel ⟨0, 0⟩ 1 = -2000 ∧
    averagedLevel ⟨10 ^ 40, 0⟩ 1 = -300 ∧
    estimateOf ((tone 20).set 3 ⟨0, 10 ^ 26⟩) 1 ⟨2, 3, -1350⟩ = some (-1400) ∧
    roundDiv (-13885) 10 = -1389 ∧ roundDiv 13885 10 = 1389 := by decide +kernel

theorem test_segments_are_added_in_the_measured_decades :
    accumulate (tone 3) (tone 3) (bands10 0 0) =
      #v[⟨1000, 0⟩, ⟨1000, 0⟩, ⟨2000, 0⟩, ⟨2000, 0⟩, ⟨2000, 0⟩, ⟨2000, 0⟩, ⟨2000, 0⟩, ⟨1000, 0⟩] := by decide +kernel

/-! ## Small states -/

/-- Port n is receiving a frame, its CSN low. -/
def recv (n : StationId) (s : State) : State :=
  (s.modLines fun x => { x with csn := x.csn.set n false }).modPort n fun p => { p with transaction := .receiving }

/-- After reset, port 1 is receiving a frame. -/
def at1 : State := recv 1 State.reset

/-- The next state of a command; the outcome is always one (see the Fault and Refusal types). -/
def after (c : Instr) (s : State) : State :=
  match exec c s with
  | .next t => t
  | _ => s

/-- The answer formed at port n. -/
def said (n : StationId) (s : State) : Option Answer := (s.port n).answer

/-- During a device reset. -/
def resetting : State := after .deviceReset State.reset

/-- Port 1 in a station reset before the given step, its command's transaction still open. -/
def inStep (x : ResetStep) : State :=
  State.reset.modPort 1 fun p =>
    { p with resetState := .resetting, transaction := .answering, progress := { ResetProgress.start with next := x } }

/-- Port 1 held by its reset input. -/
def held1 : State :=
  (State.reset.modLines fun x => { x with srstn := x.srstn.set 1 false }).modPort 1 fun p =>
    { p with resetState := .held }

/-- A socket of station 1 with a part in it, powered and warm. -/
def warmSocket : Socket :=
  { Socket.reset false with
    presence := .present
    loadGen := 1
    owner := some 1
    supply := .on
    poweredFor := 600
    secondEnd := 5 }

/-- Socket 5 as given, with port 1 receiving. -/
def with5 (x : Socket) : State := at1.modSocket 5 fun _ => x

/-- A MEASURE of station 1 on socket 5 under mask 12, its pool entry. -/
def measure5 : Request := ⟨7, 1, .measure, 5, 1, 12, 0, true, 16⟩

/-- A FREQUENCY CHECK of station 1 on socket 6 under mask 12. -/
def check6 : Request := ⟨8, 1, .frequencyCheck, 6, 1, 12, 1, false, 12⟩

/-- Mask 12 is DEFINED and named by n requests. -/
def define12 (n : Nat) (s : State) : State := s.modMask 12 fun e => { e with contents := some mask10, refCount := n }

/-- Socket 5 with its request queued, and one as yet without a pair. -/
def queued5 : State :=
  { define12 1 (with5 { warmSocket with engagement := .queued, request := some measure5.ref }) with
    pool := ⟨[measure5], 1, 3⟩ }

/-- P0 READY at 10 MHz with n runs attached. -/
def ready0 (n : Nat) : Pair :=
  { Pair.reset with
    state := .ready
    tuned := some 10000000
    range := some .range1
    firstLock := false
    calibrated := true
    lastReadyRange := some .range1
    attachments := n
    floors := floors10 }

/-- The run of the request after its edge stages. -/
def run5 : RunContext :=
  { RunContext.create measure5 mask10 (some 0) #v[false, true, false, false] #v[false, false, false, false] 0 with
    stage := .correlation }

/-- A lane with the run in this state. -/
def laneWith (st : LaneState) (c : RunContext) (ends : Option Nat) : Lane :=
  { Lane.reset with
    state := st
    holdQuiet := decide (st = .held)
    pending := if st = .held then .countedSegment else .none
    active := some c
    connected := some c.request.socket
    interval := ends }

/-- Lane 2 with the run, attached to P0, its socket RUNNING and its place in ring 1. -/
def running (x : Lane) : State :=
  { define12 1 (with5 { warmSocket with engagement := .running, request := some measure5.ref, lane := some 2 }) with
    pairs := #v[ready0 1, Pair.reset]
    lanes := #v[Lane.reset, Lane.reset, x, Lane.reset]
    rings := State.reset.rings.set 1 ⟨[entryFor (define12 1 State.reset) measure5 mask10 (some 0) 1]⟩ }

/-- The run in CORRELATE with a segment that ends at time 9. -/
def counting : State := running (laneWith .correlate run5 (some 9))

/-- Lane 2 runs the check of socket 6 while the MEASURE waits in its slot. -/
def slotted : State :=
  { running { laneWith .edge (RunContext.create check6 mask10 none #v[false, true, false, false]
        #v[false, false, false, false] 0) none with slot := some (run5.pause 0) } with
    sockets := (with5 { warmSocket with engagement := .suspended, request := some measure5.ref }).sockets.set 6
      { warmSocket with engagement := .running, request := some check6.ref, lane := some 2 } }

/-! ## For each statement, a state and operands that meet its hypotheses -/

theorem test_StepRunsFrontCommand_met :
    State.reset.pending = [] ∧ step State.reset = .next { State.reset with now := 1 } ∧
    step { State.reset with pending := [.csnFall 2] } = exec (.csnFall 2) State.reset := ⟨rfl, rfl, rfl⟩

theorem test_PortsTurnAway_met :
    (portOf (.getStatus 1 [0]) = some 1 ∧ payloadLength (.getStatus 1 [0]) = some 0 ∧
      frameOf (.getStatus 1 [0]) = some (0x01, [0]) ∧ at1.takes 1 = true) ∧
    said 1 (after (.submit 1 [4]) at1) = some ⟨.frame, []⟩ ∧
    State.reset.takes 0 = false ∧ held1.takes 1 = false ∧ resetting.takes 1 = false := by decide +kernel

theorem test_UnknownCodeFollowsStrict_met :
    at1.takes 1 = true ∧ 120 < (121 : Byte).toNat ∧
    said 1 (after (.unknownCommand 1 0x55 [9]) at1) = some ⟨.ok, []⟩ ∧
    said 1 (after (.unknownCommand 1 0x55 []) (at1.modPort 1 fun p => { p with strict := true })) =
      some ⟨.unknown, [0x55]⟩ := by decide +kernel

theorem test_TransactionEventsMoveThePort_met :
    (State.reset.inReset = false ∧ (State.reset.port 1).resetState = .running ∧
      (State.reset.port 1).transaction = .idle) ∧
    resetting.inReset = true ∧ (held1.port 1).resetState ≠ .running ∧ (at1.port 1).transaction ≠ .idle ∧
    (let s := after (.getStatus 1 []) at1
     (s.port 1).transaction = .answering ∧ (said 1 s).isSome = true ∧
     ((after (.answerShiftedOut 1) s).port 1).transaction = .discarding) := by decide +kernel

theorem test_miso_by_port_state :
    (at1.inReset = false ∧ (at1.port 1).resetState ≠ .held ∧ at1.lines.csn[1] = false) ∧
    at1.miso 1 = .fill ∧ (State.reset.select 1 false).miso 1 = .fill ∧ State.reset.miso 1 = .highImpedance ∧ (resetting.select 1 false).miso 1 = .highImpedance ∧
    (held1.select 1 false).miso 1 = .highImpedance ∧
    (after (.ackNotices 1 [63]) at1).miso 1 = .answer [0, 1, 0] ∧
    ((after (.stationReset 1 []) at1).port 1).answer = none ∧ (after (.stationReset 1 []) at1).miso 1 = .fill := by
  decide +kernel

theorem test_GetStatusReportsAndClearsByMode_met :
    at1.takes 1 = true ∧
    said 1 (after (.getStatus 1 []) at1) =
      some ⟨.ok, [0x20, 0x3F, 0x04, 1, 0, 0x00, 0x02, 0, 0, 0, 0, 0, 0, 1]⟩ ∧
    ((after (.getStatus 1 []) at1).port 1).latched = Latched.empty ∧
    ((after (.getStatus 1 []) (at1.modPort 1 fun p => { p with clearMode := .onAck })).port 1).latched.reset = true := by
  decide +kernel

theorem test_AckNoticesClearsTheNamed_met :
    at1.takes 1 = true ∧ 63 < (64 : Byte).toNat ∧ (63 : Byte).toNat ≤ 63 ∧
    said 1 (after (.ackNotices 1 [63]) at1) = some ⟨.ok, [0]⟩ ∧
    said 1 (after (.ackNotices 1 [1]) at1) = some ⟨.ok, [0x20]⟩ := by decide +kernel

theorem test_SetPortModeReplacesAllThree_met :
    at1.takes 1 = true ∧ 3 < (4 : Byte).toNat ∧ 63 < (64 : Byte).toNat ∧
    ((after (.setPortMode 1 [3, 63]) at1).port 1).strict = true ∧
    said 1 (after (.setPortMode 1 [3, 64]) at1) = some ⟨.range, []⟩ := by decide +kernel

theorem test_NoticesAndAttention_both_values :
    State.reset.attnLow 1 = true ∧ held1.attnLow 1 = false ∧ State.reset.recordNotice 1 = false ∧
    (after (.cancel 1 [7, 0]) counting).recordNotice 1 = true := by decide +kernel

theorem test_StationResetBeginsAndHeldEnds_met :
    at1.takes 1 = true ∧ (at1.inReset = false ∧ (at1.port 1).resetState = .running) ∧
    (held1.port 1).resetState ≠ .running ∧ (held1.inReset = false ∧ (held1.port 1).resetState = .held) ∧
    (at1.port 1).resetState ≠ .held := by decide +kernel

/-- SRSTN of station 1 falls. -/
def lowered (s : State) : State := after (.srstnAssertion ⟨1, false⟩) s

theorem test_SRSTN_low_for_its_microsecond :
    at1.lines.srstn[1] = true ∧ (lowered at1).lines.srstn[1] = false ∧
    ((lowered at1).port 1).resetLow = some ⟨2000000, true⟩ ∧ (held1.port 1).resetLow = none ∧
    ((lowered (inStep .pool)).port 1).resetLow = some ⟨2000000, false⟩ ∧
    ((lowered at1).port 1).resetState = .running ∧
    ((after (.srstnAssertion ⟨1, true⟩) (lowered at1)).port 1).resetState = .resetting ∧
    ((after (.srstnAssertion ⟨1, true⟩) (lowered at1)).port 1).transaction = .idle ∧
    ((after (.srstnAssertion ⟨1, true⟩) (lowered (inStep .ring))).port 1).progress.next = .ring ∧
    ((after (.srstnRelease 1) (lowered at1)).port 1).resetLow = none ∧
    ((after (.srstnRelease 1) (lowered at1)).port 1).transaction = .receiving := by decide +kernel

theorem test_a_low_of_any_age_holds_the_port_after_the_last_step :
    ((after (.resetStepRequestIds 1) (lowered (inStep .requestIds))).port 1).resetState = .held ∧
    (let begun := after (.srstnAssertion ⟨1, true⟩) (after (.stationReset 1 []) (lowered at1))
     (begun.port 1).resetState = .resetting ∧ (begun.port 1).transaction = .idle) := by decide +kernel

theorem test_StationResetPoolAndLaneSteps_met :
    ((inStep .pool).port 1).resetState = .resetting ∧ ((inStep .pool).port 1).progress.next = .pool ∧
    ((inStep .lanes).port 1).progress.next = .lanes := by decide +kernel

theorem test_StationResetRingAndSocketSteps_met :
    ((inStep .ring).port 1).resetState = .resetting ∧ ((inStep .ring).port 1).progress.next = .ring ∧
    ((inStep .sockets).port 1).progress.next = .sockets := by decide +kernel

theorem test_StationResetPortAndIdSteps_met :
    ((inStep .port).port 1).resetState = .resetting ∧ ((inStep .port).port 1).progress.next = .port ∧
    (((inStep .requestIds).port 1).progress.next = .requestIds ∧ (inStep .requestIds).lines.srstn[1] = true) ∧
    said 1 (after (.resetStepRequestIds 1) (inStep .requestIds)) = some ⟨.ok, [0, 0, 0, 0, 0]⟩ ∧
    (let s := (inStep .requestIds).modLines fun x => { x with srstn := x.srstn.set 1 false }
     (s.port 1).progress.next = .requestIds ∧ s.lines.srstn[1] = false) := by decide +kernel

theorem test_DeviceResetAndItsEnd_met :
    resetting.inReset = true ∧ after .deviceResetEnd resetting = State.reset ∧ State.reset.inReset = false ∧
    (after .deviceReset counting).masks = State.reset.masks ∧
    (after .deviceReset counting).pairs = State.reset.pairs := by decide +kernel

theorem test_ClaimSocketTakesAnUnownedSocket_met :
    at1.takes 1 = true ∧ 15 < (16 : Byte).toNat ∧ (15 : Byte).toNat = (15 : SocketId).val ∧
    (at1.socket 15).owner = none ∧ ((with5 warmSocket).socket 5).owner = some 1 ∧
    (((with5 { warmSocket with owner := some 0 }).socket 5).owner = some 0 ∧ (0 : StationId) ≠ 1) ∧
    said 1 (after (.claimSocket 1 [5]) (with5 warmSocket)) = some ⟨.ok, [5, 1, 1, 0]⟩ := by decide +kernel

theorem test_ReleaseSocketGivesUp_met :
    at1.takes 1 = true ∧ 15 < (16 : Byte).toNat ∧ (5 : Byte).toNat = (5 : SocketId).val ∧
    (at1.socket 5).owner ≠ some 1 ∧ (counting.socket 5).engagement = .running ∧
    (slotted.socket 5).engagement = .suspended ∧ ((with5 warmSocket).socket 5).engagement = .idle ∧
    ((queued5.socket 5).engagement = .queued ∧ (queued5.socket 5).request = some measure5.ref ∧
      queued5.queued measure5.ref = some measure5) ∧
    said 1 (after (.releaseSocket 1 [5]) queued5) = some ⟨.ok, [5, 7, 0]⟩ := by decide +kernel

theorem test_PowerOnChecksThenPowers_met :
    at1.takes 1 = true ∧ 1 < (2 : Byte).toNat ∧ (at1.socket 5).owner ≠ some 1 ∧
    (({ warmSocket with presence := .absent } : Socket).owner = some 1) ∧
    (let off := with5 { warmSocket with supply := .off }
     off.monitor.cutoff = false ∧ off.lines.sfault[5] = false ∧ (off.socket 5).presence = .present ∧
     said 1 (after (.powerSocketOn 1 [5, 1]) off) = some ⟨.ok, [1]⟩ ∧
     said 1 (after (.powerSocketOn 1 [5, 1]) (off.modLines fun x => { x with sfault := x.sfault.set 5 true })) =
       some ⟨.ok, [2]⟩ ∧
     said 1 (after (.powerSocketOn 1 [5, 1]) (off.modMonitor fun m => { m with cutoff := true })) =
       some ⟨.cutoff, []⟩) ∧
    said 1 (after (.powerSocketOn 1 [5, 1]) (with5 { warmSocket with supply := .fault })) = some ⟨.busy, []⟩ ∧
    said 1 (after (.powerSocketOn 1 [5, 1]) (with5 { warmSocket with presence := .absent })) =
      some ⟨.absent, []⟩ := by decide +kernel

theorem test_PowerOffTurnsTheSupplyOff_met :
    at1.takes 1 = true ∧ 15 < (16 : Byte).toNat ∧ (at1.socket 5).owner ≠ some 1 ∧
    (counting.socket 5).engagement = .running ∧ (slotted.socket 5).engagement = .suspended ∧
    (queued5.socket 5).engagement = .queued ∧ ((with5 warmSocket).socket 5).engagement = .idle ∧
    said 1 (after (.powerSocketOff 1 [5, 0]) queued5) = some ⟨.ok, [0]⟩ ∧
    said 1 (after (.powerSocketOff 1 [5, 0]) (with5 { warmSocket with supply := .off })) = some ⟨.ok, [0]⟩ := by
  decide +kernel

/-- Lane 0 runs a PULL CHECK on socket 5. -/
def pulling : State :=
  let q : Request := ⟨7, 1, .pullCheck, 5, 1, 12, 0, false, 12⟩
  { with5 { warmSocket with engagement := .running, request := some q.ref, lane := some 0 } with
    lanes := #v[laneWith .edge (RunContext.create q mask10 none #v[false, true, false, false]
      #v[false, false, false, false] 0) (some 20000000000), Lane.reset, Lane.reset, Lane.reset] }

theorem test_SetEfcStoresTheCode_met :
    at1.takes 1 = true ∧ 4095 < (0 : Byte).toNat + 256 * (16 : Byte).toNat ∧
    (255 : Byte).toNat + 256 * (15 : Byte).toNat ≤ 4095 ∧ (at1.socket 5).owner ≠ some 1 ∧
    ((pulling.socket 5).owner = some 1 ∧ pulling.pullRunning 5 = true) ∧
    (((with5 warmSocket).socket 5).owner = some 1 ∧ (with5 warmSocket).pullRunning 5 = false) ∧
    ((after (.setEfc 1 [5, 255, 15]) (with5 warmSocket)).socket 5).efcOutput = 4095 := by decide +kernel

theorem test_QuerySocketReportsAndClearsFlags_met :
    at1.takes 1 = true ∧ 15 < (16 : Byte).toNat ∧ ((with5 warmSocket).socket 5).owner = some 1 ∧
    (at1.socket 5).owner ≠ some 1 ∧
    said 1 (after (.querySocket 1 [5]) queued5) =
      some ⟨.ok, [5, 1, 1, 0, 1, 1, 0x58, 2, 0, 0, 0, 0, 1, 1, 7, 0, 255, 2, 20, 0]⟩ := by decide +kernel

theorem test_SetQuietTimeStoresTheByte_met :
    at1.takes 1 = true ∧ (after (.setQuietTime 1 [0]) at1).monitor.quietTime = 0 := by decide +kernel

/-- A PRESENT input that differs from the accepted presence, its debounce PENDING with its end at time 9. -/
def arriving : State := at1.modSocket 5 fun x => { x with debounce := some 9 }

/-- A part that is leaving socket 5. -/
def leaving : State := queued5.modSocket 5 fun x => { x with debounce := some 9 }

theorem test_PresenceEvents_met :
    (at1.inReset = false ∧ at1.lines.present[5] ≠ true) ∧
    ((arriving.socket 5).presence = .absent ∧ (arriving.socket 5).debounce = some 9) ∧
    ((leaving.socket 5).presence = .present ∧ (leaving.socket 5).debounce = some 9) ∧
    ((after (.presentChange 5 true) at1).socket 5).debounce = some 20000000000 ∧
    ((after (.riseAccepted 5) arriving).socket 5).loadGen = 1 ∧
    (after (.fallAccepted 5) leaving).pool.requests = [] ∧
    ((after (.fallAccepted 5) leaving).mask 12).refCount = 0 := by decide +kernel

theorem test_SocketEventsReachTheWork_met :
    ((with5 warmSocket).socket 5).engagement = .idle ∧
    ((queued5.socket 5).engagement = .queued ∧ (queued5.socket 5).request = some measure5.ref ∧
      queued5.queued measure5.ref = some measure5) ∧
    ((counting.socket 5).engagement = .running ∧ (counting.socket 5).request = some measure5.ref ∧
      counting.laneRunning measure5.ref = some 2) ∧
    ((slotted.socket 5).engagement = .suspended ∧ (slotted.socket 5).request = some measure5.ref ∧
      slotted.laneRunning measure5.ref = none ∧ slotted.laneHolding measure5.ref = some 2) := by decide +kernel

theorem test_SupplyFaultOnlyFromOn_met :
    (counting.inReset = false ∧ counting.lines.sfault[5] = false ∧ (counting.socket 5).supply = .on) ∧
    (at1.socket 5).supply ≠ .on ∧
    (((after (.supplyFault 5 true) counting).ring 1).entries.map fun e => e.record.map Record.cause) =
      [some (some .supply)] := by decide +kernel

theorem test_PoweredForCountsSeconds_met :
    (counting.socket 5).supply = .on ∧ (at1.socket 5).supply ≠ .on ∧
    ((after (.poweredForIncrease 5) counting).socket 5).poweredFor = 601 ∧
    ((after (.poweredForIncrease 5) (with5 { warmSocket with poweredFor := 65535 })).socket 5).poweredFor = 65535 := by
  decide +kernel

/-- MOTION high, seen by the line monitor. -/
def moving (s : State) : State :=
  (s.modLines fun x => { x with motion := true }).modMonitor fun m => { m with motion := true, quiet := false }

/-- The run under another motion policy. -/
def run5With (p : MotionPolicy) : RunContext := { run5 with mask := { mask10 with policy := p } }

theorem test_MotionMakesAndEndsNotQuiet_met :
    counting.inReset = false ∧ counting.lines.motion = false ∧ (moving counting).lines.motion = true ∧
    (moving counting).monitor.quietTime ≠ 0 ∧
    ((moving counting).modMonitor fun m => { m with quietTime := 0 }).monitor.quietTime = 0 ∧
    (after .motionFall (moving counting)).monitor.quietTimer = some 40000000000 ∧
    (let s := after .motionAssertion counting
     (s.lane 2).state = .held ∧ (s.lane 2).pending = .countedSegment ∧ s.counters.counts[5][5] = 1 ∧
     (after .quietTimerExpiry (after .motionFall s)).monitor.quiet = true ∧
     ((after .quietTimerExpiry (after .motionFall s)).lane 2).state = .correlate) := by decide +kernel

/-- Lane 2 is HELD with the run for these reasons, with this start pending. -/
def heldFor (quiet pair : Bool) (start : PendingStart) : State :=
  running { laneWith .held run5 none with holdQuiet := quiet, holdPair := pair, pending := start }

theorem test_lane_events_of_a_held_lane :
    ((heldFor true true .settle).lane 2).state = .held ∧ ((heldFor true true .settle).lane 2).holdPair = true ∧
    ((quietAt (heldFor true true .settle) 2).lane 2).holdQuiet = false ∧
    ((quietAt (heldFor true false .settle) 2).lane 2).state = .settle ∧
    ((heldFor true true .settle).lane 2).active = some run5 ∧ run5.pair = some 0 ∧
    ((readyAt 0 (heldFor true true .settle) 2).lane 2).holdPair = false ∧
    ((readyAt 0 (heldFor false true .settle) 2).lane 2).state = .settle ∧
    readyAt 1 (heldFor false true .settle) 2 = heldFor false true .settle ∧
    ((unlockAt 0 (heldFor true false .countedSegment) 2).lane 2).pending = .settle ∧
    unlockAt 0 (heldFor true false .edgeStage) 2 = heldFor true false .edgeStage ∧
    ((unlockAt 0 counting 2).lane 2).active.map (fun c => c.disturbances.unlock) = some true ∧
    unlockAt 1 counting 2 = counting := by decide +kernel

theorem test_MotionAtALaneFollowsThePolicy_met :
    (State.reset.lane 2).state = .idle ∧ ((running (laneWith .held run5 none)).lane 2).state = .held ∧
    (counting.lane 2).active = some run5 ∧ (counting.lane 2).state = .correlate ∧
    ((running (laneWith .settle run5 (some 9))).lane 2).state = .settle ∧ (slotted.lane 2).state = .edge ∧
    run5.mask.policy = .repeatWork ∧ (run5With .abort).mask.policy = .abort ∧ (run5With .wait).mask.policy = .wait ∧
    ((after .motionAssertion (running (laneWith .correlate (run5With .abort) (some 9)))).lane 2).state = .idle ∧
    ((after .motionAssertion (running (laneWith .correlate { run5 with retries := 3 } (some 9)))).counters.counts[5][4]
      = 1) := by decide +kernel

theorem test_CutoffTakesPowerAndEndsRuns_met :
    counting.inReset = false ∧ counting.lines.cutoff = false ∧
    ((after .cutoffAssertion slotted).socket 5).engagement = .idle ∧
    ((after .cutoffAssertion slotted).lane 2).state = .idle ∧
    ((after .cutoffAssertion slotted).port 3).latched.cutoff = true ∧
    (after .cutoffAssertion queued5).pool.requests = [measure5] := by decide +kernel

theorem test_WriteMaskChecksThenReplaces_met :
    at1.takes 1 = true ∧ ([] : List Byte).length < 18 ∧ 18 ≤ (mask7 mhz100 8).length ∧
    23 < field8 (24 :: List.replicate 17 0) 0 ∧ field8 (mask7 mhz100 8) 0 = (7 : MaskId).val ∧
    0 < (queued5.mask 12).refCount ∧ (at1.mask 7).refCount = 0 ∧
    bodyError (mask7 mhz100 8) = none ∧ (bodyError (mask7 mhz100 11)).isSome = true ∧
    said 1 (after (.writeMask 1 (mask7 mhz100 8)) at1) = some ⟨.ok, [7, 1]⟩ := by decide +kernel

theorem test_EraseAndReadMask_met :
    at1.takes 1 = true ∧ 23 < (24 : Byte).toNat ∧ (23 : Byte).toNat = (23 : MaskId).val ∧
    (at1.mask 23).contents = none ∧ ((define12 0 at1).mask 12).contents = some mask10 ∧
    ((define12 0 at1).mask 12).refCount = 0 ∧ 0 < (queued5.mask 12).refCount ∧
    said 1 (after (.eraseMask 1 [12]) (define12 0 at1)) = some ⟨.ok, [12, 1]⟩ ∧
    said 1 (after (.eraseMask 1 [12]) queued5) = some ⟨.inUse, []⟩ := by decide +kernel

theorem test_MaskBodyReadsBackAsWritten_met :
    18 ≤ (mask7 mhz100 8).length ∧ bodyError (mask7 mhz100 8) = none := by decide +kernel

/-- 10 MHz as the four bytes of TUNE PAIR. -/
def mhz10 : List Byte := [0x80, 0x96, 0x98, 0x00]

/-- P0 as given, port 1 receiving. -/
def withP0 (x : Pair) : State := at1.modPair 0 fun _ => x

/-- P0 in FAULT at 10 MHz. -/
def faulted0 : Pair := { ready0 0 with state := .fault, attempts := 3, lastFailure := .readback }

theorem test_TunePairStartsATuning_met :
    at1.takes 1 = true ∧ 1 < (2 : Byte).toNat ∧ (1 : Byte).toNat = (1 : PairId).val ∧
    ((at1.pair 0).attachments = 0 ∧ (at1.pair 0).state = .off) ∧
    0 < (counting.pair 0).attachments ∧ (tuned125.state ∉ [.off, .ready, .fault]) ∧
    ((withP0 faulted0).pair 0).state = .fault ∧ ((withP0 (ready0 0)).pair 0).state = .ready ∧
    said 1 (after (.tunePair 1 (0 :: mhz10)) at1) = some ⟨.ok, [0, 1, 1, 1, 0]⟩ ∧
    ((after (.tunePair 1 (0 :: mhz10)) at1).pair 0).queue.length = 13 ∧
    said 1 (after (.tunePair 1 (0 :: [0x3F, 0x42, 0x0F, 0])) at1) = some ⟨.range, []⟩ ∧
    said 1 (after (.tunePair 1 (0 :: [0x40, 0x42, 0x0F, 0])) at1) = some ⟨.ok, [0, 1, 1, 1, 0]⟩ ∧
    said 1 (after (.tunePair 1 (0 :: [0x01, 0xC2, 0xEB, 0x0B])) at1) = some ⟨.range, []⟩ := by decide +kernel

/-- A band request of station 2 under mask 11, older than measure5 would be with sequence 1. -/
def measure20 : Request := ⟨3, 2, .measure, 7, 1, 11, 0, true, 16⟩

/-- Two band requests want 20 MHz (mask 11) and, younger, 10 MHz (mask 12). -/
def wanting (pairs : Vector Pair 2) : State :=
  { (define12 1 at1).modMask 11 fun e =>
      { e with contents := some { mask10 with nominal := 20000000 }, refCount := 1 } with
    pool := ⟨[{ measure5 with seq := 1 }, measure20], 2, 3⟩
    pairs := pairs }

theorem test_planner_pass_met :
    (let s := wanting #v[Pair.reset, Pair.reset]
     s.nextUnserved [] = some measure20 ∧ s.nextUnserved [20000000, 10000000] = none ∧
     s.oldestWanting 20000000 = some measure20 ∧ s.oldestWanting 30000000 = none ∧ s.planChoice measure20 = some 0 ∧
     (plannerPass s).retune = #v[some ⟨2, 3⟩, some ⟨1, 7⟩] ∧
     ((plannerPass s).pair 0).tuned = some 20000000 ∧ ((plannerPass s).pair 1).tuned = some 10000000) ∧
    (wanting #v[tuned125, tuned125]).planChoice measure20 = none ∧
    (wanting #v[tuned125, { ready0 0 with tuned := some 30000000 }]).planChoice measure20 = some 1 ∧
    (wanting #v[ready0 1, ready0 0]).planChoice measure20 = some 1 ∧
    (wanting #v[ready0 0, ready0 0]).planChoice measure20 = some 0 := by decide +kernel

theorem test_bytes_of_a_link_transaction :
    (LinkTransaction.write 3 2 0x1234).sent = [3, 2, 0x12, 0x34] ∧
    (LinkTransaction.readIncrement 3 1 2).sent = [0x83, 1, 2] ∧
    (LinkTransaction.readIncrement 3 1 2).received [9, 0x1234, 0xABCD] = [0x12, 0x34, 0xAB, 0xCD] ∧
    (LinkTransaction.readIncrement 3 1 2).received [] = [0xFF, 0xFF, 0xFF, 0xFF] := by decide +kernel

theorem test_QueryPairReportsThePair_met :
    at1.takes 1 = true ∧ 1 < (2 : Byte).toNat ∧ (0 : Byte).toNat = (0 : PairId).val ∧
    ((said 1 (after (.queryPair 1 [0]) (withP0 (ready0 0)))).map fun a => a.payload.take 14) =
      some [0, 5, 0x80, 0x96, 0x98, 0, 1, 0, 2, 0, 0, 0, 0, 0] := by decide +kernel

/-- P0 reads back the image of its synthesizer A with these transactions still queued. -/
def reading (rest : List LinkTransaction) : State :=
  { withP0 { tuned125 with queue := rest } with link := ⟨some (0, .readIncrement 0 0 6), 1⟩ }

/-- P0 writes. -/
def writing : State := { withP0 tuned125 with link := ⟨some (0, .write 0 0 7), 1⟩ }

theorem test_LinkCompletionsAndGrants_met :
    writing.link.current = some (0, .write 0 0 7) ∧
    (let s := reading [.readIncrement 1 0 6]
     s.link.current = some (0, .readIncrement 0 0 6) ∧ (s.pair 0).state = .programming ∧ (s.pair 0).queue ≠ []) ∧
    ((reading []).pair 0).queue = [] ∧ (reading []).imageAt 0 0 = [7, 22848, 1907, 5, 0, 40769] ∧
    ([7, 22848, 1907, 5, 0, 0] : List Word16) ≠ (reading []).imageAt 0 0 ∧
    (at1.link.current = none ∧ (at1.pair 0).queue = [] ∧ (at1.pair 1).queue = []) ∧
    ((withP0 { tuned125 with queue := [.write 0 0 7] }).pair 0).queue = [.write 0 0 7] ∧
    at1.link.pointer = 0 ∧ writing.link.current ≠ none ∧
    ((after (.rmlReadIncrementComplete [7, 22848, 1907, 5, 0, 40769]) (reading [])).pair 0).state = .locking ∧
    ((after (.rmlReadIncrementComplete [0, 0, 0, 0, 0, 0]) (reading [])).pair 0).attempts = 1 := by decide +kernel

/-- P0 tuned to 10 MHz in this state, every timer and its calibration running to time 9. -/
def pair0In (st : PairState) : Pair :=
  { ready0 0 with
    state := st
    calibrated := false
    lockTimer := some 9
    settleTimer := some 9
    relockTimer := some 9
    calibrating := true }

theorem test_FailedAttemptsReprogramOrFault_met :
    (((withP0 (pair0In .locking)).pair 0).state = .locking ∧ ((withP0 (pair0In .locking)).pair 0).lockTimer = some 9) ∧
    (((withP0 (pair0In .relocking)).pair 0).state = .relocking ∧
      ((withP0 (pair0In .relocking)).pair 0).relockTimer = some 9) ∧
    (at1.pair 0).attempts < 2 ∧ ((withP0 { pair0In .locking with attempts := 2 }).pair 0).attempts = 2 ∧
    (let s := after (.lockTimerExpiry 0) (withP0 { pair0In .locking with attempts := 2 })
     (s.pair 0).state = .fault ∧ (s.port 2).latched.pair = true) ∧
    ((after (.relockTimerExpiry 0) (withP0 (pair0In .relocking))).pair 0).state = .programming := by decide +kernel

/-- Lock line 1 is high. -/
def lock1 (s : State) : State := s.modLines fun x => { x with lock := x.lock.set 1 true }

/-- Both lock lines of P0 are high. -/
def locked0 (s : State) : State := lock1 (s.modLines fun x => { x with lock := x.lock.set 0 true })

theorem test_LockLinesSettleAndRelock_met :
    at1.inReset = false ∧ at1.lines.lock[0] = false ∧ at1.bothLocked 0 = false ∧
    (locked0 at1).bothLocked 0 = true ∧ (locked0 at1).lines.lock[0] = true ∧
    ((after (.lockRise 0) (lock1 (withP0 (pair0In .locking)))).pair 0).settleTimer = some 200000000000 ∧
    ((after (.lockRise 0) (lock1 (withP0 (pair0In .relocking)))).pair 0).settleTimer = some 200000000000 ∧
    ((after (.lockFall 0) (locked0 counting)).lane 2).state = .held ∧
    ((after (.lockFall 0) (locked0 counting)).pair 0).state = .relocking ∧
    ((after (.lockFall 0) (locked0 (withP0 (pair0In .settling)))).pair 0).state = .relocking ∧
    ((after (.lockFall 0) (locked0 (withP0 (pair0In .programming)))).pair 0).state = .programming := by decide +kernel

theorem test_enterLocking_met :
    (locked0 (withP0 tuned125)).bothLocked 0 = true ∧ (withP0 tuned125).bothLocked 0 = false ∧
    ((enterLocking (locked0 (withP0 tuned125)) 0).pair 0).settleTimer = some 400000000000 ∧
    ((enterLocking (withP0 tuned125) 0).pair 0).lockTimer = some 40000000000 := by decide +kernel

theorem test_SettlingAndCalibrationLeadToReady_met :
    (((withP0 (pair0In .settling)).pair 0).state = .settling ∧
      ((withP0 (pair0In .settling)).pair 0).settleTimer = some 9 ∧
      ((withP0 (pair0In .settling)).pair 0).calibrated = false) ∧
    ((withP0 { pair0In .settling with calibrated := true }).pair 0).calibrated = true ∧
    ((withP0 (pair0In .calibrating)).pair 0).state = .calibrating ∧
    ((after (.settleTimerExpiry 0) (withP0 (pair0In .settling))).pair 0).state = .calibrating ∧
    (let s := after (.calibrationCompletion 0 (flat (-1500))) (withP0 (pair0In .calibrating))
     (s.pair 0).state = .ready ∧ (s.pair 0).calibrations = 1 ∧
     (s.pair 0).floors = #v[-1500, -1500, -1500, -1500, -1500, -1500, -1500, -1000]) := by decide +kernel

/-- Socket 5 of station 1 powered, mask 12 defined, P0 READY at 10 MHz: a MEASURE is eligible at once. -/
def prepared : State := { define12 0 (with5 warmSocket) with pairs := #v[ready0 0, Pair.reset] }

/-- P0 enters READY with no run attached, the grant at that event attaches measure5, and the planner still makes its
pass: P1 is tuned for measure20 (R77, R81). -/
theorem test_a_grant_at_ready_does_not_skip_the_planner :
    (let s := after (.calibrationCompletion 0 (flat (-1500)))
        ((wanting #v[{ ready0 0 with state := .calibrating }, Pair.reset]).modSocket 5 fun _ =>
          { warmSocket with engagement := .queued, request := some measure5.ref })
     (s.lane 0).connected = some 5 ∧ (s.pair 0).attachments = 1 ∧ (s.pair 1).tuned = some 20000000) := by decide +kernel

/-- A band request wants 10 MHz and every pair is OFF. -/
def full1 : State := { prepared with pool := ⟨List.replicate 16 measure5, 16, 3⟩ }

theorem test_SubmitChecksThenQueues_met :
    at1.takes 1 = true ∧ 15 < (16 : Byte).toNat ∧ 2 < (3 : Byte).toNat ∧ (2 : Byte).toNat = Kind.pullCheck.code ∧
    (at1.socket 5).owner ≠ some 1 ∧ ((with5 { warmSocket with presence := .absent }).socket 5).presence = .absent ∧
    ((prepared.socket 5).owner = some 1 ∧ (prepared.socket 5).presence = .present ∧
      (prepared.socket 5).loadGen = 1 ∧ (prepared.socket 5).engagement = .idle ∧
      (prepared.mask 12).contents = some mask10 ∧ (prepared.mask 11).contents = none) ∧
    ((queued5.socket 5).engagement ≠ .idle ∧ (queued5.socket 5).request = some measure5.ref) ∧
    23 < (24 : Byte).toNat ∧ 16 ≤ (full1.pool.ofStation 1).length ∧
    prepared.pool.requests.length < 32 ∧ (prepared.pool.ofStation 1).length < 16 := by decide +kernel

theorem test_submit_answers :
    said 1 (after (.submit 1 [5, 0, 1, 0, 12]) prepared) = some ⟨.ok, [0, 0, 0, 0, 0, 0]⟩ ∧
    said 1 (after (.submit 1 [5, 0, 2, 0, 12]) prepared) = some ⟨.stale, [1, 0]⟩ ∧
    said 1 (after (.submit 1 [5, 0, 1, 0, 12]) queued5) = some ⟨.busy, [1, 1, 7, 0]⟩ ∧
    said 1 (after (.submit 1 [5, 0, 1, 0, 11]) prepared) = some ⟨.noSuch, []⟩ ∧
    said 1 (after (.submit 1 [5, 0, 1, 0, 12]) full1) = some ⟨.full, []⟩ ∧
    said 1 (after (.submit 1 [5, 2, 1, 0, 12])
      (prepared.modMask 12 fun e => { e with contents := some { mask10 with pull := none } })) =
        some ⟨.range, []⟩ := by decide +kernel

theorem test_submit_is_dispatched_at_once :
    (let s := after (.submit 1 [5, 0, 1, 0, 12]) prepared
     (s.lane 0).state = .edge ∧ (s.lane 0).connected = some 5 ∧ (s.lane 0).etu.state = .opening ∧
     (s.pair 0).attachments = 1 ∧ (s.mask 12).refCount = 1 ∧ (s.ring 1).free = 496 ∧ (s.ring 2).free = 496 ∧
     s.pool.requests = [] ∧ s.pool.lastGranted = 1 ∧ (s.port 1).nextId = 1) := by decide +kernel

theorem test_a_band_request_has_its_pair_tuned :
    (let s := after (.submit 1 [5, 0, 1, 0, 12]) { prepared with pairs := State.reset.pairs }
     (s.pair 0).state = .programming ∧ (s.pair 0).tuned = some 10000000 ∧ s.retune[0] = some ⟨1, 0⟩ ∧
     s.pool.requests.length = 1) := by decide +kernel

theorem test_CancelEndsTheCallersRequest_met :
    at1.takes 1 = true ∧ at1.live ⟨1, 7⟩ = false ∧ queued5.queued ⟨1, 7⟩ = some measure5 ∧
    (counting.queued ⟨1, 7⟩ = none ∧ counting.laneRunning ⟨1, 7⟩ = some 2) ∧
    (slotted.laneRunning ⟨1, 7⟩ = none ∧ slotted.laneHolding ⟨1, 7⟩ = some 2) ∧
    said 1 (after (.cancel 1 [7, 0]) slotted) = some ⟨.ok, [7, 0, 2]⟩ ∧
    ((after (.cancel 1 [7, 0]) slotted).lane 2).slot = none := by decide +kernel

theorem test_QueriesOfRequestsAndLanes_met :
    at1.takes 1 = true ∧ 3 < (4 : Byte).toNat ∧ (3 : Byte).toNat = (3 : Fin 4).val ∧
    at1.live ⟨1, 7⟩ = false ∧ queued5.queued ⟨1, 7⟩ = some measure5 ∧
    (counting.laneRunning ⟨1, 7⟩ = some 2 ∧ (counting.lane 2).active = some run5) ∧
    (slotted.laneHolding ⟨1, 7⟩ = some 2 ∧ (slotted.lane 2).slot.isSome = true) ∧
    said 1 (after (.queryRequest 1 [1, 7, 0]) queued5) =
      some ⟨.ok, [1, 7, 0, 0, 0, 5, 1, 0, 12, 0, 0, 0, 0, 4, 255, 255, 0, 0]⟩ ∧
    said 1 (after (.queryRequest 1 [1, 7, 0]) slotted) =
      some ⟨.ok, [1, 7, 0, 2, 0, 5, 1, 0, 12, 0, 0, 0, 0, 0, 2, 0, 0, 0]⟩ := by decide +kernel

theorem test_bytes_of_query_lane :
    said 1 (after (.queryLane 1 [2]) counting) = some ⟨.ok,
      [2, 3, 0, 0, 5, 1, 7, 0, 0, 2, 0, 0, 0, 0, 0, 0, 0, 0, 0, 2, 0, 0, 255, 255, 255, 255, 255, 255,
       255, 255, 255, 255, 0, 0, 0, 0, 0, 255, 255, 255]⟩ ∧
    ((said 1 (after (.queryLane 1 [2]) slotted)).map fun a => a.payload.drop 28) =
      some [1, 7, 0, 5, 0, 0, 0, 0, 0, 255, 255, 255] := by decide +kernel

/-- Lane 2 about to start the run's work. -/
def starting (c : RunContext) : State := running (laneWith .edge c none)

/-- A PULL CHECK of socket 5. -/
def pull5 : RunContext :=
  RunContext.create ⟨7, 1, .pullCheck, 5, 1, 12, 0, false, 12⟩ mask10 none #v[false, true, false, false]
    #v[false, false, false, false] 0

theorem test_ComingToStartWorksOrHolds_met :
    ((starting run5).lane 2).active = some run5 ∧ (starting run5).monitor.quiet = true ∧
    (moving (starting run5)).monitor.quiet = false ∧ run5.pair = some 0 ∧ ((starting run5).pair 0).state = .ready ∧
    run5.pullCode = none ∧ pull5.pullCode = some (1000, 10) ∧ run5.bands ≠ [] ∧ run5.segment = 40000000000 ∧
    ((comeToStart (starting run5) 2 .countedSegment).lane 2).interval = some 40000000000 ∧
    ((comeToStart (moving (starting run5)) 2 .settle).lane 2).holdQuiet = true ∧
    ((comeToStart ((starting run5).modPair 0 fun x => { x with state := .relocking }) 2 .countedSegment).lane 2).pending
      = .settle ∧
    ((comeToStart (starting pull5) 2 .edgeStage).socket 5).efcOutput = 1000 := by decide +kernel

/-- The lane counts, and carries the mark of the check of socket 6, which is eligible. -/
def markedLane : State :=
  { counting with
    lanes := #v[Lane.reset, Lane.reset, { counting.lane 2 with mark := some check6.ref }, Lane.reset]
    pool := ⟨[check6], 2, 3⟩
    sockets := counting.sockets.set 6 { warmSocket with engagement := .queued, request := some check6.ref } }

/-- The lane counts, and the check of socket 6 waits. -/
def unmarkedLane : State :=
  { markedLane with lanes := #v[Lane.reset, Lane.reset, counting.lane 2, Lane.reset] }

theorem test_arbiter_choices_met :
    (markedLane.mask 12).contents = some mask10 ∧ markedLane.eligible check6 = true ∧
    markedLane.waitReasons check6 = 0 ∧ queued5.waitReasons measure5 = 4 ∧ queued5.eligible measure5 = false ∧
    markedLane.usableLane = some 0 ∧ markedLane.grantChoice = some check6 ∧ (grantOne markedLane).isSome = true ∧
    (markOne unmarkedLane).map (fun t => (t.lane 2).mark) = some (some ⟨1, 8⟩) ∧ markOne markedLane = none ∧
    queued5.grantChoice = none ∧ (withdrawStale markedLane).lane 2 = markedLane.lane 2 ∧
    ((withdrawStale { markedLane with pool := ⟨[], 2, 3⟩ }).lane 2).mark = none ∧
    (let busy := fun l : Lane => { l with state := .edge }
     let s := { unmarkedLane with lanes := #v[busy Lane.reset, busy Lane.reset, counting.lane 2, busy Lane.reset] }
     s.usableLane = none ∧ ((arbitrate s).lane 2).mark = some check6.ref) := by decide +kernel

theorem test_CountedCompletionCountsThenGoesOn_met :
    ((counting.lane 2).state = .correlate ∧ (counting.lane 2).active = some run5 ∧
      (counting.lane 2).interval = some 9) ∧
    run5.counted + 1 = 2 ^ 0 ∧ run5.pair = some 0 ∧ run5.mask.band = some band10 ∧
    ((after (.countedSegmentCompletion 2 (tone 26)) counting).lane 2).state = .correlate ∧
    ((countSegment counting (tone 26) run5).2 = false ∧ counting.markedRequest 2 = none) ∧
    markedLane.markedRequest 2 = some (check6, mask10) ∧
    (let c := { run5 with counted := 4095, rounds := 12 }
     (countSegment counting (tone 26) c).2 = true) := by decide +kernel

theorem test_no_power_of_two : ∀ k : Nat, ({ run5 with counted := 2 } : RunContext).counted + 1 ≠ 2 ^ k := by
  intro k h
  have h3 : (3 : Nat) = 2 ^ k := h
  match k with
  | 0 => simp at h3
  | 1 => simp at h3
  | k + 2 => simp only [Nat.pow_succ] at h3; omega

theorem test_a_marked_lane_suspends_its_run :
    (let s := after (.countedSegmentCompletion 2 (tone 26)) markedLane
     (s.socket 5).engagement = .suspended ∧ (s.socket 6).lane = some 2 ∧ (s.lane 2).state = .edge ∧
     ((s.lane 2).slot.map fun c => (c.counted, c.disturbances.preempted)) = some (1, true) ∧
     s.pool.lastGranted = 1 ∧
     (let t := after (.edgeTimeout 2) s
      (t.lane 2).state = .settle ∧ (t.socket 5).engagement = .running ∧ (t.socket 6).engagement = .idle)) := by
  decide +kernel

theorem test_RoundEndDecidesBands_met :
    band10.minRound ≤ band10.maxRound ∧ worstFloor floors10 ⟨2, 3, -1350⟩ = some (-1420) ∧
    (⟨⟨2, 3, -1350⟩, .undecided, some (-1388), none⟩ : BandRun).estimate = some (-1388) := by decide +kernel

theorem test_LaneTimersExpire_met :
    (((running (laneWith .settle run5 (some 9))).lane 2).state = .settle ∧
      ((running (laneWith .settle run5 (some 9))).lane 2).interval = some 9) ∧
    ((pulling.lane 0).state = .edge ∧ (pulling.lane 0).interval = some 20000000000) ∧
    run5.since = some 0 ∧
    ((after (.efcSettleExpiry 0) pulling).lane 0).etu.timeout = some 20100000000 ∧
    ((after (.settleCompletion 2) (running (laneWith .settle run5 (some 9)))).lane 2).state = .correlate ∧
    (((after (.runTimerExpiry 2) counting).ring 1).entries.map fun e =>
      e.record.map fun r => (r.verdict, r.runTime)) = [some (.timeout, 300)] ∧
    (((after (.edgeTimeout 0) (after (.efcSettleExpiry 0) pulling)).socket 5).engagement = .idle) := by decide +kernel

/-- A unit that counts RISING edges with a filter of 1000 ticks, as in the FREQUENCY worked example of 07. -/
def unit : Etu := Etu.start ⟨.rising, 1000, 4096, .frequency⟩ false 0

/-- A unit in BOTH that needs two periods, as in the JITTER worked example of 07. -/
def both : Etu := Etu.start ⟨.both, 1000, 2, .jitter⟩ false 0

/-- Lane 2 in an edge stage of the run with this unit. -/
def inEdge (c : RunContext) (e : Etu) : State := running { laneWith .edge c none with etu := e }

/-- The run in its FREQUENCY stage. -/
def freq5 : RunContext := { run5 with stage := .frequency }

theorem test_TransitionsQualifyOrGlitch_met :
    (at1.inReset = false ∧ at1.lines.signal[5] ≠ true) ∧ at1.laneOn 5 = none ∧ counting.laneOn 5 = some 2 ∧
    (counting.lane 2).etu.state = .stopped ∧
    (let s := inEdge freq5 unit
     s.laneOn 5 = some 2 ∧ (s.lane 2).etu.state ≠ .stopped ∧ true ≠ (s.lane 2).etu.filtered ∧
     (s.lane 2).etu.width ≠ 0 ∧ (s.lane 2).etu.qualification = none ∧
     (let t := after (.etuInputTransition 5 true 1000) s
      (t.lane 2).etu.qualification = some ⟨1000, 2000⟩ ∧ false = (t.lane 2).etu.filtered ∧
      t.lines.signal[5] ≠ false ∧ ((after (.etuInputTransition 5 false 1003) t).lane 2).etu.glitches = 1 ∧
      ((after (.filterWidthExpiry 2) t).lane 2).etu.state = .counting)) ∧
    ((inEdge freq5 (Etu.start ⟨.rising, 0, 4096, .frequency⟩ false 0)).lane 2).etu.width = 0 := by decide +kernel

theorem test_an_edge_closes_the_window_at_the_last_period :
    (let e := { (both.accept true 1000 2000).accept false 101200 102200 with periods := 1 }
     e.setting.map EtuSetting.periods = some 2 ∧ (e.accept true 201000 202000).periods = 2 ∧
     ((acceptEdge (inEdge { run5 with stage := .jitter } e) 2 true 201000).lane 2).etu.state = .stopped ∧
     ((acceptEdge (inEdge { run5 with stage := .jitter } { e with periods := 0 }) 2 true 201000).lane 2).etu.periods
       = 1) := by decide +kernel

theorem test_AcceptedEdgesFormPeriods_met :
    both.setting = some ⟨.both, 1000, 2, .jitter⟩ ∧ EdgeMode.rising.times false = false ∧
    EdgeMode.rising.times true = true ∧ both.state = .opening ∧
    (let e := ((both.accept true 1000 2000).accept false 101200 102200)
     e.state = .counting ∧ e.history = [⟨false, 101200⟩, ⟨true, 1000⟩] ∧
     (e.accept true 201000 202000).stats = ⟨200000, 200000 * 200000, some 200000, some 200000, 100200⟩) ∧
    (unit.accept true 1000 2000).history = [⟨true, 1000⟩] ∧
    ((unit.accept true 1000 2000).accept true 201000 202000).periods = 1 := by decide +kernel

/-- The unit with the statistics of a closed window. -/
def closedWith (periods : Nat) (stats : PeriodStats) (glitches : Nat) : Etu :=
  { unit with state := .counting, periods := periods, stats := stats, glitches := glitches }

def ofSpan (n : Nat) : PeriodStats := ⟨n, 0, none, none, 0⟩

theorem test_WindowCloseAppliesTheStageDecision_met :
    ((inEdge freq5 unit).lane 2).active = some freq5 ∧ freq5.stage = .frequency ∧
    (({ run5 with stage := .jitter } : RunContext).mask.jitter = some ⟨8, 2000, 5000, 0⟩) ∧ pull5.stage = .pullLow ∧
    (let c := { pull5 with stage := .pullHigh, pullLow := some (819216384, 4096) }
     c.pullLow = some (819216384, 4096) ∧ c.mask.pull = some ⟨1000, 3000, 10, 30⟩ ∧
     (((closeWindow (inEdge c unit) 2 (closedWith 4096 (ofSpan 819183616) 0)).ring 1).entries.map fun e =>
       e.record.map fun r => (r.verdict, r.pull)) = [some (.pass, some 40)]) ∧
    ((closeWindow (inEdge freq5 unit) 2 (closedWith 4096 (ofSpan 819199402) 0)).lane 2).state = .edge ∧
    (((closeWindow (inEdge freq5 unit) 2 (closedWith 4096 (ofSpan 819190000) 0)).ring 1).entries.map fun e =>
      e.record.map Record.verdict) = [some .offFrequency] ∧
    (let s := closeWindow (inEdge { run5 with stage := .jitter } unit) 2 (closedWith 256 jitterStats 1)
     (s.lane 2).state = .correlate ∧
     (s.lane 2).active.map (fun c => (c.fails.glitch, c.fails.jitterRms, c.glitches)) = some (true, false, 1)) := by
  decide +kernel

theorem test_window_results_and_plan_met :
    jitterStats.span * jitterStats.span ≤ 256 * jitterStats.squares ∧ 0 < jitterStats.span ∧
    jitterStats.shortest = some 199996 ∧ jitterStats.longest = some 200005 ∧
    freq5.plan = [] ++ freq5.stage :: .jitter :: [.correlation] ∧
    run5.plan = [.frequency, .jitter] ++ [run5.stage] ∧ run5.stage ∉ [Stage.frequency, .jitter] ∧
    ((advance (inEdge freq5 unit) 2).lane 2).active.map RunContext.stage = some .jitter ∧
    ((advance counting 2).lane 2).state = .idle ∧
    (closedWith 4096 (ofSpan 1) 3).close.glitches = 0 ∧
    ({ closedWith 4096 (ofSpan 1) 3 with setting := both.setting }).close.glitches = 3 := by decide +kernel

theorem test_ends_and_resumption_met :
    (State.reset.lane 2).active = none ∧ (counting.lane 2).slot = none ∧ (slotted.lane 2).slot = some (run5.pause 0) ∧
    (let t := endActive slotted 2 .completed none
     (t.lane 2).state = .settle ∧ (t.lane 2).connected = some 5 ∧ (t.socket 5).lane = some 2) ∧
    ((abortSlot slotted 2 .cancelled).lane 2).slot = none ∧
    (((runEndActions pulling { pull5 with ending := some .completed }).socket 5).efcOutput = 0) := by decide +kernel

theorem test_RunEndCommitsAndReleases :
    (let s := after (.cancel 1 [7, 0]) counting
     (s.lane 2).state = .idle ∧ (s.mask 12).refCount = 0 ∧ (s.pair 0).attachments = 0 ∧
     (s.socket 5).engagement = .idle ∧ s.counters.counts[5][4] = 1 ∧
     (s.ring 1).entries.map (fun e => e.record.map fun r => (r.verdict, r.cause)) =
       [some (.aborted, some .cancelled)] ∧
     commitsIn { run5 with cause := some .stationReset } 1 = false ∧ commitsIn run5 1 = true) := by decide +kernel

/-- The ring of station 1 holds a committed record behind nothing. -/
def recorded : State := recv 1 (after (.cancel 1 [7, 0]) counting)

theorem test_ReadRecordTakesTheHead_met :
    recorded.takes 1 = true ∧ (recorded.ring 1).readable = 1 ∧ (counting.ring 1).reserved = 1 ∧
    (at1.ring 1).entries = [] ∧ counting.takes 1 = true ∧
    said 1 (after (.readRecord 1 []) counting) = some ⟨.empty, [1, 0, 0xF0, 1, 0]⟩ ∧
    ((after (.readRecord 1 []) recorded).ring 1).entries = [] ∧
    said 1 (after (.readRecord 1 []) recorded) = some ⟨.ok,
      [0, 0, 7, 0, 1, 0, 0xC5, 2, 0, 2, 0x1A, 0, 0xBA, 0xFA, 0x34, 0, 0x8E, 0xF9,
       8, 0, 0, 0, 0, 0, 0, 0, 0, 0, 0, 0x80, 0xFF, 0xFF, 0xFF, 0xFF, 0xFF, 0xFF, 0xFF, 0xFF, 0, 0, 0xFF, 0xFF,
       0, 0x80, 0xF8, 0xFF, 0, 0x80, 0xF8, 0xFF]⟩ := by decide +kernel

/-- The count of index i of socket 6 has this value. -/
def counted (v : Word16) : State :=
  at1.modCounters fun c => { c with counts := updateAt c.counts 6 fun row => row.set 0 v }

theorem test_CountersCountAndAreRead_met :
    at1.takes 1 = true ∧ at1.counters.freeze = false ∧ at1.counters.saturate = false ∧
    (counted 65535).counters.counts[6][0] = 65535 ∧
    (bumpYield (counted 65535) 6 0).counters.counts[6][0] = 0 ∧
    (bumpYield (counted 32767) 6 0).counters.last = some ⟨6, 0, .half⟩ ∧
    ((bumpYield (counted 65534) 6 0).port 3).latched.counter = true ∧
    (bumpYield ((counted 65535).modCounters fun c => { c with saturate := true }) 6 0).counters.counts[6][0] = 65535 ∧
    7 < (8 : Byte).toNat ∧ 3 < (4 : Byte).toNat ∧
    ((after (.counterControl 1 [4, 2]) at1).counters.counts[15][5] = 32752) ∧
    15 < (16 : Byte).toNat ∧ 8 < (9 : Byte).toNat ∧ 16 < (15 : Byte).toNat + (2 : Byte).toNat ∧
    (15 : Byte).toNat + (1 : Byte).toNat ≤ 16 ∧ (8 : Byte).toNat + (8 : Byte).toNat ≤ 16 ∧
    said 1 (after (.readCounters 1 [15, 1]) at1) =
      some ⟨.ok, [0, 15, 1, 255, 255, 255, 0, 0, 0, 0, 0, 0, 0, 0, 0, 0, 0, 0]⟩ := by decide +kernel

theorem test_step_laws_met :
    step State.reset = .next State.reset.tick ∧ State.reset.ringsFit ∧ State.reset.lineLaw ∧
    exec (.csnFall 1) State.reset = .next (recv 1 State.reset) ∧ Instr.csnFall 1 ≠ .deviceReset ∧
    0 < (queued5.mask 12).refCount ∧ portOf (.getStatus 1 []) = some 1 ∧ (2 : StationId) ≠ 1 := by
  refine ⟨rfl, ?_, ?_, rfl, by decide, by decide +kernel, rfl, by decide⟩
  · unfold State.ringsFit; decide +kernel
  · unfold State.lineLaw; decide +kernel

/-- Only lane 2 holds a run, which is run5. -/
theorem counting_lanes (l : LaneId) :
    (counting.lane l).active = (if l = 2 then some run5 else none) ∧ (counting.lane l).slot = none := by
  revert l; decide +kernel

theorem test_work_law_met : counting.lanesLawful ∧ counting.workLaw := by
  refine ⟨?_, ?_, ?_, ⟨?_, ?_, fun l c h => ?_, fun l c h => ?_, ?_⟩, ?_, ?_, ?_⟩
  · unfold State.lanesLawful Lane.lawful; decide +kernel
  · unfold State.masksCounted; decide +kernel
  · unfold State.pairsCounted; decide +kernel
  · decide +kernel
  · decide +kernel
  · rw [(counting_lanes l).1] at h
    split at h
    · rename_i e; subst e; have := Option.some.inj h; subst this; decide +kernel
    · cases h
  · rw [(counting_lanes l).2] at h; cases h
  · decide +kernel
  · decide +kernel
  · decide +kernel
  · decide +kernel

theorem test_FramesReadBackAsTheirCommands_met :
    (Instr.powerSocketOn 1 [3, 1]).wellFormed = true ∧ portOf (.powerSocketOn 1 [3, 1]) = some 1 ∧
    frameBytes (.powerSocketOn 1 [3, 1]) = some [0x12, 2, 3, 1] ∧ 120 < (121 : Byte).toNat := by decide +kernel

/-! ## The names the statements open -/

/-- The place of run5 in the ring of a station. -/
def placeIn (n : StationId) : RingEntry := entryFor (define12 0 State.reset) measure5 mask10 (some 0) n

/-- The same place, committed. -/
def filledIn (n : StationId) : RingEntry := { placeIn n with record := some (run5.record 0) }

theorem test_entries_are_dropped_filled_and_counted :
    (placeIn 1).role = .original ∧ (placeIn 2).role = .copy ∧
    (dropCopy 2 ⟨[placeIn 2]⟩ run5).skipped[2] = true ∧ dropCopy 1 ⟨[placeIn 1]⟩ run5 = run5 ∧
    (commitEntries measure5.ref (run5.record 0) [filledIn 2, placeIn 2, placeIn 2]).map (fun e => e.record.isSome) =
      [true, true, false] ∧
    commitEntries check6.ref (run5.record 0) [placeIn 2] = [placeIn 2] ∧
    (⟨[filledIn 1, filledIn 1, placeIn 1, filledIn 1]⟩ : Machine.Ring).readable = 2 := by decide +kernel

theorem test_what_a_station_has :
    slotted.runsOf 1 = 2 ∧ slotted.runsOf 0 = 0 ∧ (with5 warmSocket).ownedBits 1 = 32 ∧
    (at1.notices 1).bits = 32 ∧ (queued5.pool.ofStation 1).length = 1 := by decide +kernel

theorem test_ids_pass_over_live_ones :
    queued5.live ⟨1, 7⟩ = true ∧ queued5.live ⟨1, 8⟩ = false ∧ nextFreeId queued5 1 17 7 = 8 ∧
    queued5.live ⟨1, 65534⟩ = false ∧ nextFreeId queued5 1 17 65534 = 65534 ∧
    counting.live ⟨1, 7⟩ = true ∧ slotted.live ⟨1, 7⟩ = true ∧ idAfter 65534 = 0 := by decide +kernel

/-- Both pairs as given. -/
def pairsOf (x y : Pair) : State := { at1 with pairs := #v[x, y] }

theorem test_pair_choices :
    (pairsOf (ready0 1) (ready0 0)).attachChoice 10000000 = some 1 ∧
    (pairsOf (ready0 1) (ready0 1)).attachChoice 10000000 = some 0 ∧
    (pairsOf Pair.reset (ready0 3)).attachChoice 10000000 = some 1 ∧ at1.attachChoice 10000000 = none ∧
    at1.servingPair 10000000 = none ∧
    (let relocking := { ready0 0 with state := .relocking }
     (pairsOf relocking relocking).servingPair 10000000 = some 0 ∧
     (pairsOf relocking (ready0 3)).servingPair 10000000 = some 1) := by decide +kernel

theorem test_reservations :
    reservedIn at1 measure5 mask10 = #v[false, true, true, false] ∧
    (let full := at1.modRing 2 fun _ => ⟨List.replicate 32 (placeIn 2)⟩
     reservedIn full measure5 mask10 = #v[false, true, false, false] ∧
     skippedBy full measure5 mask10 = #v[false, false, true, false]) := by decide +kernel

theorem test_stage_settings :
    freq5.etuSetting = ⟨.rising, 1000, 4096, .frequency⟩ ∧
    ({ run5 with stage := .jitter } : RunContext).etuSetting = ⟨.rising, 1000, 256, .jitter⟩ ∧
    ({ pull5 with stage := .pullHigh } : RunContext).pullCode = some (3000, 10) ∧ unit.stop.state = .stopped ∧
    Etu.reset.stop = Etu.reset ∧ (startEtu (starting freq5) 2 freq5 |>.lane 2).etu = Etu.start freq5.etuSetting false 0 := by
  decide +kernel

theorem test_an_event_that_reaches_both_runs_of_a_lane :
    (let s := abortWhere (ownedBy 1) .stationReset slotted 2
     (s.lane 2).state = .idle ∧ (s.lane 2).slot = none ∧ s.counters.counts[5][4] = 1 ∧ s.counters.counts[6][4] = 1) ∧
    abortWhere (ownedBy 0) .stationReset slotted 2 = slotted ∧
    ((abortWhere (attachedTo 0) .pairFault slotted 2).lane 2).state = .edge := by decide +kernel

/-! ## Paths across blocks -/

theorem test_a_station_reset_clears_its_station :
    (let s := counting.modPort 1 fun p => { p with resetState := .resetting, transaction := .answering }
     let t := after (.resetStepRequestIds 1) (after (.resetStepPort 1) (after (.resetStepSockets 1)
       (after (.resetStepRing 1) (after (.resetStepLanes 1) (after (.resetStepPool 1) s)))))
     said 1 t = some ⟨.ok, [0, 1, 1, 1, 0]⟩ ∧ (t.socket 5).owner = none ∧ (t.ring 1).entries = [] ∧
     (t.lane 2).state = .idle ∧ (t.port 1).resetState = .running ∧ (t.port 1).latched = Latched.empty) := by
  decide +kernel

theorem test_no_table_word_spells_a_command :
    decodeTableWord 8 1 = none ∧ State.reset.withFetchWord 8 1 = State.reset := by decide +kernel


end Sys2Proof.Tests
end

section
/-!
PROOFS. The round end of CORRELATION (01_screening_method_runs_rounds_and_verdicts.md, R13 to R16): F0 of a band, the
decision and the closure of one band, the round end band by band, and the end of correlation.
-/
namespace Sys2Proof.Machine

/-! ## F0 of a band (R13) -/

theorem mem_allDecades (d : Fin 8) : d ∈ allDecades := by
  revert d; decide

/-- The decades of a band are the valid ones between its first and its last. -/
theorem mem_decadesFrom (d1 d2 : Nat) (d : Fin 8) : d ∈ decadesFrom d1 d2 ↔ d1 ≤ d.val ∧ d.val ≤ d2 := by
  simp [decadesFrom, mem_allDecades]

/-- The highest value over the decades d1 to d2 is taken at one of them and bounds the value at each. -/
theorem max?_map_decadesFrom_eq_some_iff (g : Fin 8 → Int) (d1 d2 : Nat) (m : Int) :
    ((decadesFrom d1 d2).map g).max? = some m ↔
      (∃ d : Fin 8, d1 ≤ d.val ∧ d.val ≤ d2 ∧ g d = m) ∧
      ∀ d : Fin 8, d1 ≤ d.val → d.val ≤ d2 → g d ≤ m := by
  rw [List.max?_eq_some_iff, List.forall_mem_map]
  simp only [List.mem_map, mem_decadesFrom, and_imp, and_assoc]

theorem worstFloor_eq_some_iff (floors : Vector Int 8) (b : Band) (f0 : Int) :
    worstFloor floors b = some f0 ↔
      (∃ d : Fin 8, b.first ≤ d.val ∧ d.val ≤ b.last ∧ floors[d] = f0) ∧
      ∀ d : Fin 8, b.first ≤ d.val → d.val ≤ b.last → floors[d] ≤ f0 :=
  max?_map_decadesFrom_eq_some_iff (fun d => floors[d]) b.first b.last f0

/-! ## One band at a round end (R13 to R15) -/

theorem BandRun.setFloor_of_worstFloor {floors : Vector Int 8} {b : BandRun} {f0 : Int} (k : Nat)
    (h : worstFloor floors b.band = some f0) :
    b.setFloor floors k = { b with floor := some (f0 - 15 * (k : Int)) } := by
  simp [BandRun.setFloor, h]

/-- A decided band keeps its state at the decision of R14. -/
theorem BandRun.decided_of_ne_undecided (d : BandPart) {b : BandRun} (h : b.state ≠ .undecided) :
    b.decided d = b := by
  unfold BandRun.decided
  split
  · contradiction
  · rfl

/-- The table of R14 for an OPEN band with an estimate and a floor. -/
theorem BandRun.decided_of_undecided (d : BandPart) {b : BandRun} {e f : Int} (hs : b.state = .undecided)
    (he : b.estimate = some e) (hf : b.floor = some f) :
    b.decided d = { b with
      state :=
        if b.band.limit + d.guard ≤ e ∧ f ≤ b.band.limit - d.margin then .fail
        else if e ≤ b.band.limit - d.guard ∧ f ≤ b.band.limit - d.margin then .pass
        else .undecided } := by
  obtain ⟨band, state, estimate, floor⟩ := b
  subst hs he hf
  simp only [BandRun.decided]
  split
  · rfl
  · split <;> rfl

/-- A decided band keeps its state at the closure of R15. -/
theorem BandRun.closed_of_ne_undecided (d : BandPart) {b : BandRun} (h : b.state ≠ .undecided) : b.closed d = b := by
  unfold BandRun.closed
  split
  · contradiction
  · rfl

/-- The closure of R15 for an OPEN band with a floor. -/
theorem BandRun.closed_of_undecided (d : BandPart) {b : BandRun} {f : Int} (hs : b.state = .undecided)
    (hf : b.floor = some f) :
    b.closed d = { b with state := if b.band.limit - d.margin < f then .unreached else .marginal } := by
  simp only [BandRun.closed, hs, hf]

/-- One band after the round-end work of round k: its floor, from the min round on the decision, at the max round the
closure. -/
def BandRun.afterRound (d : BandPart) (floors : Vector Int 8) (k : Nat) (b : BandRun) : BandRun :=
  let floored := b.setFloor floors k
  let decided := if d.minRound ≤ k then floored.decided d else floored
  if k = d.maxRound then decided.closed d else decided

/-- The round end treats each band by itself. -/
theorem roundBands_eq_map (d : BandPart) (floors : Vector Int 8) (k : Nat) (bands : List BandRun) :
    roundBands d floors k bands = bands.map (BandRun.afterRound d floors k) := by
  unfold roundBands BandRun.afterRound
  split_ifs <;> simp only [List.map_map, Function.comp_def]

theorem roundBands_singleton (d : BandPart) (floors : Vector Int 8) (k : Nat) (b : BandRun) :
    roundBands d floors k [b] = [b.afterRound d floors k] :=
  roundBands_eq_map d floors k [b]

theorem roundBands_eq_flatMap (d : BandPart) (floors : Vector Int 8) (k : Nat) (bands : List BandRun) :
    roundBands d floors k bands = bands.flatMap fun b => roundBands d floors k [b] := by
  simp only [roundBands_singleton]
  rw [roundBands_eq_map, List.map_eq_flatMap]

/-- A decided band takes the new floor and nothing else. -/
theorem BandRun.afterRound_of_ne_undecided (d : BandPart) (floors : Vector Int 8) (k : Nat) {b : BandRun}
    (h : b.state ≠ .undecided) : b.afterRound d floors k = b.setFloor floors k := by
  have hs : (b.setFloor floors k).state ≠ .undecided := h
  simp [BandRun.afterRound, BandRun.decided_of_ne_undecided d hs, BandRun.closed_of_ne_undecided d hs]

/-- Below the min round, which is never above the max round (R30), a band takes the new floor and nothing else. -/
theorem BandRun.afterRound_of_lt_minRound {d : BandPart} (floors : Vector Int 8) {k : Nat} (b : BandRun)
    (hrounds : d.minRound ≤ d.maxRound) (hk : k < d.minRound) : b.afterRound d floors k = b.setFloor floors k := by
  have hmin : ¬ d.minRound ≤ k := by omega
  have hmax : k ≠ d.maxRound := by omega
  simp [BandRun.afterRound, hmin, hmax]

/-- The state an OPEN band with estimate e and effective floor f takes at the end of round k, from the min round
on. -/
theorem BandRun.afterRound_of_undecided {d : BandPart} {floors : Vector Int 8} {k : Nat} {b : BandRun} {e f0 f : Int}
    (hs : b.state = .undecided) (he : b.estimate = some e) (hf0 : worstFloor floors b.band = some f0)
    (hf : f = f0 - 15 * (k : Int)) (hk : d.minRound ≤ k) :
    b.afterRound d floors k = { b with
      floor := some f
      state :=
        if b.band.limit + d.guard ≤ e ∧ f ≤ b.band.limit - d.margin then .fail
        else if e ≤ b.band.limit - d.guard ∧ f ≤ b.band.limit - d.margin then .pass
        else if k = d.maxRound then (if b.band.limit - d.margin < f then .unreached else .marginal)
        else .undecided } := by
  have hdecided := BandRun.decided_of_undecided d (b := { b with floor := some f }) hs he rfl
  simp only [BandRun.afterRound, BandRun.setFloor_of_worstFloor k hf0, ← hf, if_pos hk, hdecided]
  by_cases hfail : b.band.limit + d.guard ≤ e ∧ f ≤ b.band.limit - d.margin
  · simp only [if_pos hfail]
    rw [BandRun.closed_of_ne_undecided d (by simp), ite_self]
  · by_cases hpass : e ≤ b.band.limit - d.guard ∧ f ≤ b.band.limit - d.margin
    · simp only [if_neg hfail, if_pos hpass]
      rw [BandRun.closed_of_ne_undecided d (by simp), ite_self]
    · simp only [if_neg hfail, if_neg hpass]
      rw [BandRun.closed_of_undecided d rfl rfl]
      split <;> rfl

/-- R13 to R15 for one band with an estimate. -/
theorem roundBands_singleton_of_estimate {d : BandPart} {floors : Vector Int 8} {k : Nat} {b : BandRun} {e f0 : Int}
    (hrounds : d.minRound ≤ d.maxRound) (he : b.estimate = some e) (hf0 : worstFloor floors b.band = some f0) :
    let f := f0 - 15 * (k : Int)
    let clear := f ≤ b.band.limit - d.margin
    roundBands d floors k [b] = [{ b with
      floor := some f
      state :=
        if b.state ≠ .undecided ∨ k < d.minRound then b.state
        else if b.band.limit + d.guard ≤ e ∧ clear then .fail
        else if e ≤ b.band.limit - d.guard ∧ clear then .pass
        else if k = d.maxRound then (if b.band.limit - d.margin < f then .unreached else .marginal)
        else .undecided }] := by
  intro f clear
  rw [roundBands_singleton]
  by_cases hkeep : b.state ≠ .undecided ∨ k < d.minRound
  · have hfloor : b.afterRound d floors k = b.setFloor floors k := by
      obtain hs | hk := hkeep
      · exact BandRun.afterRound_of_ne_undecided d floors k hs
      · exact BandRun.afterRound_of_lt_minRound floors b hrounds hk
    rw [hfloor, BandRun.setFloor_of_worstFloor k hf0, if_pos hkeep]
  · have hs : b.state = .undecided := by tauto
    have hk : d.minRound ≤ k := by omega
    rw [BandRun.afterRound_of_undecided hs he hf0 rfl hk, if_neg hkeep]

/-! ## The run at a round end (R12, R16, R19) -/

@[simp] theorem endRound_rounds (d : BandPart) (floors : Vector Int 8) (k : Nat) (c : RunContext) :
    (c.endRound d floors k).rounds = c.rounds + 1 := rfl

@[simp] theorem endRound_counted (d : BandPart) (floors : Vector Int 8) (k : Nat) (c : RunContext) :
    (c.endRound d floors k).counted = c.counted := rfl

@[simp] theorem endRound_mask (d : BandPart) (floors : Vector Int 8) (k : Nat) (c : RunContext) :
    (c.endRound d floors k).mask = c.mask := rfl

@[simp] theorem endRound_bands (d : BandPart) (floors : Vector Int 8) (k : Nat) (c : RunContext) :
    (c.endRound d floors k).bands = roundBands d floors k c.bands := rfl

/-- A FAIL band after the round end adds BAND; the other members of the fail set stay (R19). -/
theorem endRound_fails (d : BandPart) (floors : Vector Int 8) (k : Nat) (c : RunContext) :
    (c.endRound d floors k).fails =
      { c.fails with band := c.fails.band || (c.endRound d floors k).bands.any fun b => decide (b.state = .fail) } :=
  rfl

theorem BandRun.failed_iff (b : BandRun) : b.failed = true ↔ b.state = .fail := by
  simp [BandRun.failed]

theorem BandRun.settled_iff (b : BandRun) : b.settled = true ↔ b.state = .pass ∨ b.state = .fail := by
  simp [BandRun.settled, BandRun.failed_iff]

/-- The three ends of correlation of R16. -/
theorem correlationEnds_iff (d : BandPart) (k : Nat) (c : RunContext) :
    c.correlationEnds d k = true ↔
      (∀ b ∈ c.bands, b.state = .pass ∨ b.state = .fail) ∨
      (c.mask.failFast = true ∧ ∃ b ∈ c.bands, b.state = .fail) ∨ k = d.maxRound := by
  simp only [RunContext.correlationEnds, Bool.or_eq_true, Bool.and_eq_true, List.all_eq_true, List.any_eq_true,
    decide_eq_true_eq, BandRun.settled_iff, BandRun.failed_iff, or_assoc]

/-- Settles O48: F0 by the highest entry over the band's decades, the bands one by one by the table of R13 to R15,
the run's fields by `RunContext.endRound`, and the end of correlation by R16. -/
theorem roundEndDecidesBands : Obligations.RoundEndDecidesBands := by
  refine ⟨worstFloor_eq_some_iff, fun y floors k c hrounds => ?_⟩
  refine ⟨endRound_rounds y floors k c, endRound_counted y floors k c, roundBands_eq_flatMap y floors k c.bands,
    fun b e f0 he hf0 => roundBands_singleton_of_estimate hrounds he hf0, endRound_fails y floors k c, ?_⟩
  simpa only [endRound_mask] using correlationEnds_iff y k (c.endRound y floors k)

end Sys2Proof.Machine
end

section
/-!
PROOFS. The tuning images of a pair (04_reference_pairs_and_the_management_link.md, R69), the fourteen transactions of
an attempt (R70), and the bytes of a link transaction (R71).
-/
namespace Sys2Proof.Machine

/-! ## The tuning images (R69) -/

/-- The control, frequency, tuning count and attempt words, the frequency's low word by its remainder. -/
theorem imageHead_eq (x : Pair) (y : Synth) :
    x.imageHead y =
      [BitVec.ofNat 16 (rangeByte x.range + 4 + (match y with | .a => 0 | .b => 8)),
       BitVec.ofNat 16 (x.tuned.getD 0 % 65536), BitVec.ofNat 16 (x.tuned.getD 0 / 65536), x.tunings,
       BitVec.ofNat 16 x.attempts] := by
  have hlow : BitVec.ofNat 16 (x.tuned.getD 0 % 65536) = BitVec.ofNat 16 (x.tuned.getD 0) :=
    BitVec.eq_of_toNat_eq (by simp)
  rw [hlow]
  rfl

@[simp] theorem imageHead_length (x : Pair) (y : Synth) : (x.imageHead y).length = 5 := rfl

@[simp] theorem image_length (x : Pair) (y : Synth) : (x.image y).length = 6 := by
  simp [Pair.image]

theorem image_take_five (x : Pair) (y : Synth) : (x.image y).take 5 = x.imageHead y :=
  List.take_left' (imageHead_length x y)

/-- A check word that is the negative of the sum before it makes the whole sum 0. -/
theorem foldl_add_append_neg_sum {w : Nat} (words : List (BitVec w)) :
    (words ++ [0 - words.foldl (· + ·) 0]).foldl (· + ·) 0 = 0 := by
  rw [List.foldl_append, List.foldl_cons, List.foldl_nil, add_sub_cancel]

theorem image_sum_zero (x : Pair) (y : Synth) : (x.image y).foldl (· + ·) 0 = 0 :=
  foldl_add_append_neg_sum (x.imageHead y)

/-! ## The transactions of an attempt (R70) -/

@[simp] theorem imageWrites_length (a : SynthAddr) (image : List Word16) :
    (imageWrites a image).length = image.length :=
  List.length_mapIdx

/-- The writes of an image, one for each word index in order. -/
theorem imageWrites_eq_map_range (a : SynthAddr) (image : List Word16) :
    imageWrites a image = (List.range image.length).map fun i => LinkTransaction.write a i (image.getD i 0) := by
  apply List.ext_getElem
  · simp
  · intro i himage hrange
    have hi : i < image.length := by simpa using himage
    simp [imageWrites, hi]

theorem imageWrites_image (a : SynthAddr) (x : Pair) (y : Synth) :
    imageWrites a (x.image y) = (List.range 6).map fun i => LinkTransaction.write a i ((x.image y).getD i 0) := by
  rw [imageWrites_eq_map_range, image_length]

/-- The writes of both images come to the first twelve transactions. -/
theorem imageWrites_both_length (p : PairId) (x : Pair) :
    (imageWrites (synthAddr p .a) (x.image .a) ++ imageWrites (synthAddr p .b) (x.image .b)).length = 12 := by
  simp

theorem attemptQueue_length (p : PairId) (x : Pair) : (attemptQueue p x).length = 14 := by
  simp [attemptQueue]

theorem attemptQueue_take (p : PairId) (x : Pair) :
    (attemptQueue p x).take 12 =
      imageWrites (synthAddr p .a) (x.image .a) ++ imageWrites (synthAddr p .b) (x.image .b) :=
  List.take_left' (imageWrites_both_length p x)

theorem attemptQueue_drop (p : PairId) (x : Pair) :
    (attemptQueue p x).drop 12 = [.readIncrement (synthAddr p .a) 0 6, .readIncrement (synthAddr p .b) 0 6] :=
  List.drop_left' (imageWrites_both_length p x)

/-! ## The bytes of a transaction (R71) -/

/-- A word's two bytes as its bit fields, bits 8 to 15 first. -/
theorem linkWord_eq_extract (w : Word16) : linkWord w = [w.extractLsb' 8 8, w.extractLsb' 0 8] := by
  have hhigh : BitVec.ofNat 8 (w.toNat / 256) = w.extractLsb' 8 8 :=
    BitVec.eq_of_toNat_eq (by simp [Nat.shiftRight_eq_div_pow])
  have hlow : BitVec.ofNat 8 w.toNat = w.extractLsb' 0 8 := BitVec.eq_of_toNat_eq (by simp)
  rw [linkWord, hhigh, hlow]

theorem write_sent (a : SynthAddr) (i : Nat) (w : Word16) :
    (LinkTransaction.write a i w).sent =
      [BitVec.ofNat 8 a.val, BitVec.ofNat 8 i, w.extractLsb' 8 8, w.extractLsb' 0 8] := by
  rw [← linkWord_eq_extract]
  rfl

theorem readIncrement_sent (a : SynthAddr) (i k : Nat) :
    (LinkTransaction.readIncrement a i k).sent =
      [BitVec.ofNat 8 (128 + a.val), BitVec.ofNat 8 i, BitVec.ofNat 8 k] := by
  rw [Nat.add_comm]
  rfl

theorem readIncrement_received (a : SynthAddr) (i k : Nat) (held : List Word16) :
    (LinkTransaction.readIncrement a i k).received held = (List.range k).flatMap fun j =>
      [(held.getD (i + j) 0xFFFF).extractLsb' 8 8, (held.getD (i + j) 0xFFFF).extractLsb' 0 8] := by
  simp only [LinkTransaction.received, linkWord_eq_extract]

/-- Every word that nobody drives reads as two bytes 0xFF. -/
theorem readIncrement_received_nil (a : SynthAddr) (i k : Nat) :
    (LinkTransaction.readIncrement a i k).received [] = List.replicate (2 * k) 0xFF := by
  have hword : linkWord 0xFFFF = [0xFF, 0xFF] := by decide
  simp only [LinkTransaction.received, List.getD_nil, hword]
  induction k with
  | zero => rfl
  | succ k ih =>
    rw [List.range_succ, List.flatMap_append, ih, Nat.mul_succ, List.replicate_add]
    rfl

/-- Settles O37: the image by its head and its check word, the queue by its twelve writes and two reads, and the bytes
of a transaction by its kind. -/
theorem tuningImagesAndAttemptQueue : Obligations.TuningImagesAndAttemptQueue := by
  refine ⟨by decide, fun p x => ⟨attemptQueue_length p x, ?writes, attemptQueue_drop p x, fun y => ?image⟩,
    fun a i k w held => ?bytes⟩
  case writes => rw [attemptQueue_take, imageWrites_image, imageWrites_image]
  case image => exact ⟨image_length x y, (image_take_five x y).trans (imageHead_eq x y), image_sum_zero x y⟩
  case bytes =>
    exact ⟨write_sent a i w, rfl, readIncrement_sent a i k, readIncrement_received a i k held,
      readIncrement_received_nil a i k⟩

end Sys2Proof.Machine
end

section
/-!
PROOFS. The notices and the attention output of a port, and GET STATUS (10_station_ports.md, R177 to R180).
-/
namespace Sys2Proof.Machine

/-! ## Updating a port by what stands in it -/

theorem updateAt_congr {n : Nat} {α : Type} {v : Vector α n} {i : Fin n} {f g : α → α} (h : f v[i] = g v[i]) :
    updateAt v i f = updateAt v i g := by
  rw [updateAt, h, ← updateAt]

theorem updateAt_eq_self {n : Nat} {α : Type} {v : Vector α n} {i : Fin n} {f : α → α} (h : f v[i] = v[i]) :
    updateAt v i f = v := by
  rw [updateAt, h]
  exact Vector.set_getElem_self i.isLt

theorem modPort_congr {s : State} {n : StationId} {f g : Port → Port} (h : f (s.port n) = g (s.port n)) :
    s.modPort n f = s.modPort n g :=
  congrArg (fun ports => { s with ports := ports }) (updateAt_congr h)

theorem modPort_eq_self {s : State} {n : StationId} {f : Port → Port} (h : f (s.port n) = s.port n) :
    s.modPort n f = s :=
  congrArg (fun ports => { s with ports := ports }) (updateAt_eq_self h)

/-! ## The readable records and the RECORD notice (R154, R177) -/

/-- Entries before the first RESERVED one are readable, and no other. -/
theorem readable_of_append {r : Ring} {before after : List RingEntry} (h : r.entries = before ++ after)
    (hcommitted : ∀ e ∈ before, e.record.isSome = true) (hreserved : ∀ e ∈ after.head?, e.record = none) :
    r.readable = before.length := by
  have hafter : after.takeWhile (fun e => e.record.isSome) = [] := by
    cases after with
    | nil => rfl
    | cons e es =>
      have he : e.record = none := hreserved e rfl
      exact List.takeWhile_cons_of_neg (by simp [he])
  rw [Ring.readable, h, List.takeWhile_append_of_pos hcommitted, hafter, List.append_nil]

theorem one_le_readable_iff (r : Ring) :
    1 ≤ r.readable ↔ ∃ e es c, r.entries = e :: es ∧ e.record = some c := by
  unfold Ring.readable
  cases r.entries with
  | nil => simp
  | cons e es =>
    cases he : e.record with
    | none => simp [he]
    | some c => simp [he]

theorem recordNotice_iff (s : State) (n : StationId) :
    s.recordNotice n = true ↔ ∃ e es c, (s.ring n).entries = e :: es ∧ e.record = some c := by
  rw [State.recordNotice, decide_eq_true_iff, one_le_readable_iff]

/-! ## The attention output (R179) -/

theorem attnLow_iff (s : State) (n : StationId) :
    s.attnLow n = true ↔
      s.inReset = false ∧ (s.port n).resetState = .running ∧ (s.notices n).meets (s.port n).enable = true := by
  simp only [State.attnLow, Bool.and_eq_true, Bool.not_eq_true', decide_eq_true_eq, and_assoc]

/-- Settles O9: RECORD by the head of the ring, ATTN by the notices that meet the enable set. -/
theorem noticesAndAttentionFollowTheState : Obligations.NoticesAndAttentionFollowTheState :=
  fun n s => ⟨recordNotice_iff s n, attnLow_iff s n⟩

/-! ## Bytes of flags (R180) -/

theorem bitsOf_cons (f : Bool) (flags : List Bool) : bitsOf (f :: flags) = Nat.bit f (bitsOf flags) := by
  rw [Nat.bit_val, Nat.add_comm]
  rfl

theorem testBit_bitsOf (flags : List Bool) (i : Nat) : (bitsOf flags).testBit i = flags.getD i false := by
  induction flags generalizing i with
  | nil => exact Nat.zero_testBit i
  | cons f flags ih =>
    rw [bitsOf_cons]
    cases i with
    | zero => exact Nat.testBit_bit_zero f _
    | succ i => rw [Nat.testBit_bit_succ, ih, List.getD_cons_succ]

theorem bitsOf_lt (flags : List Bool) : bitsOf flags < 2 ^ flags.length := by
  refine Nat.lt_pow_two_of_testBit _ fun i hi => ?_
  rw [testBit_bitsOf, List.getD_eq_default _ _ hi]

/-! ## The socket map and the counts of a station (R180) -/

theorem allSockets_getElem? (k : SocketId) : allSockets[k.val]? = some k := by
  revert k; decide

theorem ownedBits_lt (s : State) (n : StationId) : s.ownedBits n < 65536 :=
  calc s.ownedBits n
    _ < 2 ^ (allSockets.map fun k => s.owns n k).length := bitsOf_lt _
    _ = 65536 := by rw [List.length_map]; rfl

theorem testBit_ownedBits (s : State) (n : StationId) (k : SocketId) :
    (s.ownedBits n).testBit k.val = decide ((s.socket k).owner = some n) := by
  rw [State.ownedBits, testBit_bitsOf, List.getD_eq_getElem?_getD, List.getElem?_map, allSockets_getElem?]
  rfl

theorem ownedBy_toNat_eq_countP (n : StationId) (o : Option RunContext) :
    (ownedBy n o).toNat = o.toList.countP fun c => decide (c.request.station = n) := by
  cases o with
  | none => rfl
  | some c => simp [ownedBy, List.countP_cons, Bool.toNat, Bool.cond_decide]

/-- GET STATUS counts a station's runs among the runs of the part. -/
theorem runsOf_eq_countP (s : State) (n : StationId) :
    s.runsOf n = s.runs.countP fun c => decide (c.request.station = n) := by
  simp only [State.runsOf, State.runs, List.countP_flatMap, Function.comp_def, Lane.contexts, List.countP_append,
    ownedBy_toNat_eq_countP]

/-! ## GET STATUS (R178, R180) -/

theorem ClearMode.bit_eq_decide (m : ClearMode) : m.bit = decide (m = .onAck) := by
  cases m <;> rfl

/-- R178 by the clear mode: ON_READ leaves no latched notice, ON_ACK every one. -/
theorem clearOnRead_eq (s : State) (n : StationId) :
    clearOnRead s n =
      s.modPort n fun p => { p with latched := if p.clearMode = .onRead then Latched.empty else p.latched } := by
  unfold clearOnRead
  split
  case h_1 hread => exact modPort_congr (by simp [hread])
  case h_2 hack =>
    refine (modPort_eq_self ?_).symm
    rw [if_neg (by simp [hack])]

theorem statusPayload_eq (s : State) (n : StationId) :
    statusPayload s n =
      [BitVec.ofNat 8 (s.notices n).bits, BitVec.ofNat 8 (s.port n).enable.bits,
       BitVec.ofNat 8 (bitsOf [decide ((s.port n).clearMode = .onAck), (s.port n).strict, s.attnLow n]),
       BitVec.ofNat 8 n.val, BitVec.ofNat 8 (s.ring n).readable] ++ bytes16 (s.ring n).free ++
      [BitVec.ofNat 8 (s.pool.ofStation n).length, BitVec.ofNat 8 (s.runsOf n)] ++ bytes16 (s.ownedBits n) ++
      bytes16 (s.port n).nextId.toNat ++ [BitVec.ofNat 8 (bitsOf [s.monitor.quiet, s.monitor.cutoff])] := by
  rw [← ClearMode.bit_eq_decide]
  rfl

theorem execGetStatus_taken {s : State} {n : StationId} (h : s.takes n = true) :
    execGetStatus n [] s = .next ((clearOnRead s n).answerAt n ⟨.ok, statusPayload s n⟩) := by
  rw [execGetStatus, takeCommand_taken h, fixedLength_ok List.length_nil]

theorem exec_getStatus (n : StationId) (payload : List Byte) (s : State) :
    exec (.getStatus n payload) s = execGetStatus n payload s := rfl

/-- Settles O6: flags bit by bit, the fields of the answer each by its own lemma, and the clearing by clear mode. -/
theorem getStatusReportsAndClearsByMode : Obligations.GetStatusReportsAndClearsByMode := by
  refine ⟨testBit_bitsOf, fun v => rfl, fun n s => ?fields, fun n s h => ?answer⟩
  case fields =>
    exact ⟨rfl, fun _ _ => readable_of_append, rfl, rfl, runsOf_eq_countP s n, ownedBits_lt s n,
      testBit_ownedBits s n⟩
  case answer =>
    rw [exec_getStatus, execGetStatus_taken h, clearOnRead_eq, statusPayload_eq]
    rfl

end Sys2Proof.Machine
end

section
/-!
PROOFS. What WRITE MASK admits (02_masks.md, R34): a body that fails no check holds valid contents.
-/
namespace Sys2Proof.Machine

theorem field8_lt (b : List Byte) (i : Nat) : field8 b i < 256 := (byteAt b i).isLt

theorem bandsAt_length (b : List Byte) (n i : Nat) : (bandsAt b n i).length = n := by
  induction n generalizing i with
  | zero => rfl
  | succ n ih => simp [bandsAt, ih]

/-- The checks of a body in the order of R33 and R34: none fails exactly when each passes. -/
theorem bodyError_eq_none_iff (b : List Byte) :
    bodyError b = none ↔ field8 b 17 ≤ 7 ∧ bandCountMissing b = false ∧ bandCountBad b = false ∧
      b.length = impliedLength b ∧ ∀ c ∈ maskChecks b, c.fails = false := by
  unfold bodyError
  split_ifs with hparts hmissing hbad hlength
  · simp; omega
  · simp [hmissing]
  · simp [hbad]
  · simp [hlength]
  · have hparts : field8 b 17 ≤ 7 := by omega
    have hlength : b.length = impliedLength b := not_not.mp hlength
    simp [hparts, hmissing, hbad, hlength]

theorem MotionPolicy.code_le (p : MotionPolicy) : p.code ≤ 2 := by cases p <;> decide

theorem EdgeMode.code_le (m : EdgeMode) : m.code ≤ 2 := by cases m <;> decide

theorem stationBits_le (set : StationSet) : stationBits set ≤ 15 := by
  have := bitsOf_lt [set[0], set[1], set[2], set[3]]
  simp only [List.length_cons, List.length_nil] at this
  exact Nat.le_of_lt_succ this

/-- The header checks read the policy, copy set and edge mode bytes for their ranges alone: bytes that the types of the
fields allow pass wherever the raw ones do. -/
theorem headerChecks_pass {m : Mask} {policy copySet edgeMode p c e : Nat} (hp : p ≤ 2) (hc : c ≤ 15) (he : e ≤ 2)
    (h : ∀ x ∈ headerChecks m policy copySet edgeMode, x.fails = false) :
    ∀ x ∈ headerChecks m p c e, x.fails = false := by
  simp only [headerChecks, List.forall_mem_cons] at h ⊢
  obtain ⟨h4, h5, h6, h7, -, h9, -, -, h12, h13, hnil⟩ := h
  exact ⟨h4, h5, h6, h7, decide_eq_false (by omega), h9, decide_eq_false (by omega), decide_eq_false (by omega), h12, h13,
    hnil⟩

theorem maskFields_countsFit {b : List Byte} (h : bandCountBad b = false) : (maskFields b).countsFit = true := by
  have hband : ∀ d, (maskFields b).band = some d → 1 ≤ d.bands.length ∧ d.bands.length ≤ 8 := fun d hd => by
    by_cases hp : partPresent b 1 = true
    · obtain rfl : _ = d := Option.some.inj ((if_pos hp).symm.trans hd)
      simp [bandCountBad, hp] at h
      simp only [bandsAt_length]
      omega
    · exact absurd ((if_neg hp).symm.trans hd) (by simp)
  have hglitch : ∀ j, (maskFields b).jitter = some j → j.glitchLimit ≤ 255 := fun j hj => by
    by_cases hp : partPresent b 0 = true
    · obtain rfl : _ = j := Option.some.inj ((if_pos hp).symm.trans hj)
      exact Nat.le_of_lt_succ (field8_lt b 25)
    · exact absurd ((if_neg hp).symm.trans hj) (by simp)
  unfold Mask.countsFit
  rw [Bool.and_eq_true]
  constructor
  · cases hd : (maskFields b).band with
    | none => rfl
    | some d => simpa using hband d hd
  · cases hj : (maskFields b).jitter with
    | none => rfl
    | some j => simpa using hglitch j hj

/-- A body that fails no check of R34 holds contents within the ranges of R28 to R32. -/
theorem maskFields_valid {b : List Byte} (h : bodyError b = none) : (maskFields b).valid = true := by
  obtain ⟨-, -, hbad, -, hchecks⟩ := (bodyError_eq_none_iff b).mp h
  have hheader := headerChecks_pass (MotionPolicy.code_le (maskFields b).policy) (stationBits_le (maskFields b).copySet)
    (EdgeMode.code_le (maskFields b).edgeMode) fun x hx => hchecks x (List.mem_append_left _ hx)
  have hparts : ∀ x ∈ partChecks (maskFields b), x.fails = false := fun x hx => hchecks x (List.mem_append_right _ hx)
  rw [Mask.valid, maskFields_countsFit hbad, Bool.true_and, List.all_append, Bool.and_eq_true, List.all_eq_true,
    List.all_eq_true]
  exact ⟨fun x hx => by rw [hheader x hx]; rfl, fun x hx => by rw [hparts x hx]; rfl⟩

end Sys2Proof.Machine
end

section
/-!
PROOFS. What a command or event keeps (95_what_each_step_holds.md): `Kept c s t` says of a step of c from s to t which
blocks it leaves alone and which laws of Safety.lean it keeps, but for the device resets. One lemma per own change of a
command; what follows inside the step is a `Cascade`.
-/
namespace Sys2Proof.Machine

/-! ## Completing -/

/-- The outcome is a next state with the property. -/
def Completes (o : Host.Outcome State Fault Refusal) (P : State → Prop) : Prop := ∃ t, o = .next t ∧ P t

theorem completes_next {P : State → Prop} {t : State} (h : P t) : Completes (.next t) P := ⟨t, rfl, h⟩

theorem Completes.next {P : State → Prop} {o : Host.Outcome State Fault Refusal} {t : State} (h : Completes o P)
    (ht : o = .next t) : P t := by
  obtain ⟨u, hu, hp⟩ := h
  obtain rfl : u = t := by rw [hu] at ht; injection ht
  exact hp

section
variable {P : State → Prop} {n : StationId} {s : State}

/-- A command completes where the property holds of the state and of what the owning block leaves. -/
theorem completes_takeCommand {block : State × Answer} (hs : P s) (answer : ∀ u a, P u → P (u.answerAt n a))
    (hb : s.takes n = true → P block.1) : Completes (takeCommand n s block) P := by
  refine ⟨_, takeCommand_next n s block, ?_⟩
  split
  · exact answer _ _ (hb ‹_›)
  · exact hs

theorem completes_resetStep {x : ResetStep} {act : State} (hs : P s) (ha : P act) : Completes (resetStep n x s act) P := by
  unfold resetStep
  split
  · exact completes_next ha
  · exact completes_next hs

/-- What holds of the state and of what the block leaves holds after the port's length check. -/
theorem fixedLength_keeps {len : Nat} {payload : List Byte} {block : State × Answer} (hs : P s) (hb : P block.1) :
    P (fixedLength len payload s block).1 := by
  unfold fixedLength
  split
  · exact hb
  · exact hs

/-- What holds of the state and of what the block leaves of an owned socket holds after the ownership check. -/
theorem ownedSocket_keeps {number : Nat} {block : SocketId → State × Answer} (hs : P s)
    (hb : ∀ k, (s.socket k).owner = some n → P (block k).1) : P (ownedSocket n number s block).1 := by
  unfold ownedSocket
  split
  · exact hs
  · split
    · exact hb _ (of_decide_eq_true ‹_›)
    · exact hs

end

/-! ## The supply law, socket by socket (R49) -/

/-- What the supply law asks of socket k with this entry. -/
def State.admitsSupply (s : State) (k : SocketId) (x : Socket) : Prop :=
  x.supply = .on →
    x.owner.isSome = true ∧ x.presence = .present ∧ s.lines.sfault[k] = false ∧ s.monitor.cutoff = false ∧
    s.inReset = false

theorem supplyLaw_iff (s : State) : s.supplyLaw ↔ ∀ k, s.admitsSupply k (s.socket k) := Iff.rfl

/-- The fields of a socket that the supply law reads. -/
theorem State.admitsSupply.congr {s : State} {k : SocketId} {x y : Socket} (h : s.admitsSupply k x)
    (hs : y.supply = x.supply) (ho : y.owner = x.owner) (hp : y.presence = x.presence) : s.admitsSupply k y := by
  unfold State.admitsSupply
  rw [hs, ho, hp]
  exact h

theorem State.admitsSupply_of_ne_on {s : State} {k : SocketId} {x : Socket} (h : x.supply ≠ .on) : s.admitsSupply k x :=
  fun hon => absurd hon h

/-! ## Who owns what -/

/-- A line event: it changes input levels. -/
def drivesLines : Instr → Bool
  | .presentChange _ _ | .supplyFault _ _ | .motionAssertion | .motionFall | .cutoffAssertion | .cutoffDeassertion
  | .lockRise _ | .lockFall _ | .etuInputTransition _ _ _ | .srstnAssertion _ | .srstnRelease _ | .csnFall _
  | .csnRise _ => true
  | _ => false

/-- A command or event of the socket table, or the step of a station reset that gives its sockets up. -/
def changesSockets : Instr → Bool
  | .claimSocket _ _ | .releaseSocket _ _ | .powerSocketOn _ _ | .powerSocketOff _ _ | .setEfc _ _ | .querySocket _ _
  | .resetStepSockets _ | .presentChange _ _ | .riseAccepted _ | .fallAccepted _ | .supplyFault _ _
  | .poweredForIncrease _ | .cutoffAssertion => true
  | _ => false

/-- The commands that write the mask table. -/
def writesMasks : Instr → Bool
  | .writeMask _ _ | .eraseMask _ _ => true
  | _ => false

/-- The command that writes the counter settings. -/
def setsCounters : Instr → Bool
  | .counterControl _ _ => true
  | _ => false

/-- From s to t the command or event has left alone what it does not own, and has kept the laws. -/
structure Kept (c : Instr) (s t : State) : Prop where
  pending : t.pending = s.pending
  inReset : t.inReset = s.inReset
  lines : drivesLines c = false → t.lines = s.lines
  lineLaw : s.lineLaw → t.lineLaw
  supplyLaw : s.lineLaw → s.supplyLaw → t.supplyLaw
  socket : changesSockets c = false → ∀ k, (t.socket k).fixed = (s.socket k).fixed
  mask : writesMasks c = false → ∀ m, (t.mask m).text = (s.mask m).text
  masksValid : s.masksValid → t.masksValid
  poolFits : s.poolFits → t.poolFits
  port : ∀ n j, portOf c = some n → j ≠ n → (t.port j).fixed = (s.port j).fixed
  settings : setsCounters c = false → t.counters.settings = s.counters.settings
  rings : s.ringsFit → t.ringsFit
  pairs : s.pairsLawful → t.pairsLawful

theorem poolFits_of_sublist {s t : State} (h : t.pool.requests.Sublist s.pool.requests) (w : s.poolFits) : t.poolFits :=
  ⟨h.length_le.trans w.1, fun n => ((h.filter _).length_le).trans (w.2 n)⟩

theorem masksValid_of_text {s t : State} (h : ∀ m, (t.mask m).text = (s.mask m).text) (w : s.masksValid) :
    t.masksValid := fun m c hc => w m c ((congrArg Prod.fst (h m)).symm.trans hc)

theorem lineLaw_of_eq {s t : State} (hr : t.inReset = s.inReset) (hm : t.monitor = s.monitor) (hl : t.lines = s.lines)
    (w : s.lineLaw) : t.lineLaw := by
  unfold State.lineLaw
  rw [hr, hm, hl]
  exact w

/-- The supply law reads of a socket only fields that the blocks' own work leaves alone. -/
theorem Cascade.supplyLaw {s t : State} (h : Cascade s t) (w : s.supplyLaw) : t.supplyLaw := fun k hon => by
  have hk := h.socket k
  simp only [Socket.fixed, Prod.mk.injEq] at hk
  obtain ⟨hp, -, -, -, -, ho, hs, -⟩ := hk
  rw [ho, hp, h.lines, h.monitor, h.inReset]
  exact w k (hs ▸ hon)

namespace Kept

variable {c : Instr}

theorem refl (s : State) : Kept c s s :=
  ⟨rfl, rfl, fun _ => rfl, id, fun _ => id, fun _ _ => rfl, fun _ _ => rfl, id, id, fun _ _ _ _ => rfl, fun _ => rfl, id,
    id⟩

theorem trans {s t u : State} (a : Kept c s t) (b : Kept c t u) : Kept c s u where
  pending := b.pending.trans a.pending
  inReset := b.inReset.trans a.inReset
  lines h := (b.lines h).trans (a.lines h)
  lineLaw w := b.lineLaw (a.lineLaw w)
  supplyLaw v w := b.supplyLaw (a.lineLaw v) (a.supplyLaw v w)
  socket h k := (b.socket h k).trans (a.socket h k)
  mask h m := (b.mask h m).trans (a.mask h m)
  masksValid w := b.masksValid (a.masksValid w)
  poolFits w := b.poolFits (a.poolFits w)
  port n j h e := (b.port n j h e).trans (a.port n j h e)
  settings h := (b.settings h).trans (a.settings h)
  rings w := b.rings (a.rings w)
  pairs w := b.pairs (a.pairs w)

/-- The blocks' own work is no command's. -/
theorem ofCascade {s t : State} (h : Cascade s t) : Kept c s t where
  pending := h.pending
  inReset := h.inReset
  lines _ := h.lines
  lineLaw w := lineLaw_of_eq h.inReset h.monitor h.lines w
  supplyLaw _ w := h.supplyLaw w
  socket _ := h.socket
  mask _ := h.mask
  masksValid w := masksValid_of_text h.mask w
  poolFits w := poolFits_of_sublist h.requests w
  port _ j _ _ := h.port j
  settings _ := h.settings
  rings := h.rings
  pairs := h.pairs

/-- The blocks' own work after a command's. -/
theorem andThen {s t u : State} (a : Kept c s t) (b : Cascade t u) : Kept c s u := a.trans (ofCascade b)

/-! ## The own changes of commands and events -/

theorem reach (s : State) (t : Nat) : Kept c s (s.reach t) := { refl s with }

theorem reachStamp (s : State) (x : Stamp) : Kept c s (s.reachStamp x) := { refl s with }

theorem modPort (s : State) (n : StationId) (f : Port → Port) (h : ∀ j, portOf c = some j → j = n) :
    Kept c s (s.modPort n f) :=
  { refl (c := c) s with
    port := fun i j hi e => by
      rw [h i hi] at e
      rw [modPort_port, if_neg e] }

theorem answerAt {n : StationId} (h : portOf c = some n) (s : State) (a : Answer) : Kept c s (s.answerAt n a) :=
  modPort s n _ fun j hj => by simpa [h] using hj.symm

theorem modCounters (s : State) (f : Counters → Counters)
    (h : setsCounters c = true ∨ (f s.counters).settings = s.counters.settings) : Kept c s (s.modCounters f) :=
  { refl s with settings := fun hc => h.resolve_left (by simp [hc]) }

theorem setSockets (s : State) (v : Vector Socket 16) (hc : changesSockets c = true)
    (h : s.supplyLaw → ∀ k : SocketId, s.admitsSupply k v[k]) : Kept c s { s with sockets := v } :=
  { refl (c := c) s with
    socket := fun hn => absurd hc (by simp [hn])
    supplyLaw := fun _ w => h w }

theorem modSocket (s : State) (k : SocketId) (f : Socket → Socket) (hc : changesSockets c = true)
    (h : s.admitsSupply k (s.socket k) → s.admitsSupply k (f (s.socket k))) : Kept c s (s.modSocket k f) :=
  setSockets s _ hc fun w j => by
    rw [updateAt_get]
    split
    · rename_i e
      subst e
      exact h (w j)
    · exact w j

theorem modMask (s : State) (m : MaskId) (f : MaskEntry → MaskEntry) (hc : writesMasks c = true)
    (h : ∀ d, (f (s.mask m)).contents = some d → d.valid = true) : Kept c s (s.modMask m f) :=
  { refl (c := c) s with
    mask := fun hn => absurd hc (by simp [hn])
    masksValid := fun w j d hd => by
      rw [modMask_mask] at hd
      split at hd
      · exact h d hd
      · exact w j d hd }

/-- A change of the input levels that the monitor does not follow. -/
theorem modLines (s : State) (f : Lines → Lines) (hc : drivesLines c = true)
    (hl : s.inReset = false → s.lineLaw → (f s.lines).motion = s.lines.motion ∧ (f s.lines).cutoff = s.lines.cutoff)
    (hs : s.lineLaw → s.supplyLaw → ∀ k : SocketId, (s.socket k).supply = .on → (f s.lines).sfault[k] = false) :
    Kept c s (s.modLines f) :=
  { refl (c := c) s with
    lines := fun hn => absurd hc (by simp [hn])
    lineLaw := fun w => ⟨w.1, w.2.1, fun hr => by
      obtain ⟨hm, hx⟩ := hl hr w
      obtain ⟨hm', hx'⟩ := w.2.2 hr
      exact ⟨hm'.trans hm.symm, hx'.trans hx.symm⟩⟩
    supplyLaw := fun v w k hon => by
      obtain ⟨ho, hp, -, hcut, hr⟩ := w k hon
      exact ⟨ho, hp, hs v w k hon, hcut, hr⟩ }

/-- A change of input levels that neither the monitor nor the supplies read. -/
theorem modOtherLines (s : State) (f : Lines → Lines) (hc : drivesLines c = true) (hm : (f s.lines).motion = s.lines.motion)
    (hx : (f s.lines).cutoff = s.lines.cutoff) (hf : (f s.lines).sfault = s.lines.sfault) : Kept c s (s.modLines f) :=
  modLines s f hc (fun _ _ => ⟨hm, hx⟩) fun _ w k hon => by
    rw [hf]
    obtain ⟨-, -, h, -⟩ := w k hon
    exact h

/-- A change of the line monitor that keeps its law and the cutoff state. -/
theorem modMonitor (s : State) (f : LineMonitor → LineMonitor) (hx : (f s.monitor).cutoff = s.monitor.cutoff)
    (hl : s.lineLaw → (s.modMonitor f).lineLaw) : Kept c s (s.modMonitor f) :=
  { refl (c := c) s with
    lineLaw := hl
    supplyLaw := fun _ w k hon => by
      obtain ⟨ho, hp, hf, hcut, hr⟩ := w k hon
      exact ⟨ho, hp, hf, hx.trans hcut, hr⟩ }

theorem modPair (s : State) (p : PairId) (f : Pair → Pair) (h : (s.pair p).lawful → (f (s.pair p)).lawful) :
    Kept c s (s.modPair p f) := ofCascade (Cascade.modPair s p f h)

theorem setRings (s : State) (v : Vector Ring 4) (h : s.ringsFit → ∀ n : StationId, (v[n]).used ≤ 512) :
    Kept c s { s with rings := v } := ofCascade (Cascade.setRings s v h)

end Kept

end Sys2Proof.Machine
end

section
/-!
PROOFS. Every command and event completes, and keeps what `Kept` says (95_what_each_step_holds.md): the commands of the
ports first, then the events, family by family, and all of them at the end.
-/
namespace Sys2Proof.Machine

theorem takes_iff (s : State) (n : StationId) :
    s.takes n = true ↔ s.inReset = false ∧ (s.port n).resetState = .running ∧ (s.port n).transaction = .receiving := by
  simp only [State.takes, Bool.and_eq_true, Bool.not_eq_true', decide_eq_true_eq, and_assoc]

/-! ## Commands -/

section
variable {c : Instr} {n : StationId} {s : State}

/-- A command keeps what its block keeps: the answer is the port's own. -/
theorem command_kept {block : State × Answer} (hp : portOf c = some n) (hb : s.takes n = true → Kept c s block.1) :
    Completes (takeCommand n s block) (Kept c s) :=
  completes_takeCommand (Kept.refl s) (fun u a h => h.trans (Kept.answerAt hp u a)) hb

theorem fixedCommand_kept {len : Nat} {payload : List Byte} {block : State × Answer} (hp : portOf c = some n)
    (hb : s.takes n = true → Kept c s block.1) :
    Completes (takeCommand n s (fixedLength len payload s block)) (Kept c s) :=
  command_kept hp fun ht => fixedLength_keeps (Kept.refl s) (hb ht)

theorem latch_kept (hp : portOf c = some n) (f : Latched → Latched) : Kept c s (s.latch n f) :=
  Kept.modPort s n _ fun j hj => by simpa [hp] using hj.symm

/-- A socket whose supply is not ON afterwards meets the supply law. -/
theorem modSocket_kept_of_ne_on (hc : changesSockets c = true) {k : SocketId} {f : Socket → Socket}
    (h : ∀ x, (f x).supply ≠ .on) : Kept c s (s.modSocket k f) :=
  Kept.modSocket s k f hc fun _ => State.admitsSupply_of_ne_on (h _)

/-- A socket whose supply, owner and presence stay meets the supply law as before. -/
theorem modSocket_kept_of_same (hc : changesSockets c = true) {k : SocketId} {f : Socket → Socket}
    (hs : ∀ x, (f x).supply = x.supply) (ho : ∀ x, (f x).owner = x.owner) (hp : ∀ x, (f x).presence = x.presence) :
    Kept c s (s.modSocket k f) :=
  Kept.modSocket s k f hc fun w => w.congr (hs _) (ho _) (hp _)

theorem clearOnRead_kept (hp : portOf c = some n) : Kept c s (clearOnRead s n) := by
  unfold clearOnRead
  split
  · exact latch_kept hp _
  · exact Kept.refl s

theorem claim_kept (hc : changesSockets c = true) (k : SocketId) : Kept c s (claim n k s).1 := by
  unfold claim
  split
  · refine Kept.modSocket s k _ hc fun w hon => ?_
    obtain ⟨-, hrest⟩ := w hon
    exact ⟨rfl, hrest⟩
  · split
    · exact Kept.refl s
    · exact Kept.refl s

theorem releaseSocket_kept (hc : changesSockets c = true) (k : SocketId) : Kept c s (releaseSocket k s).1 := by
  have giveUp : ∀ u : State, Kept c u (u.modSocket k Socket.giveUp) := fun u =>
    modSocket_kept_of_ne_on hc fun x => by simp [Socket.giveUp]
  unfold releaseSocket
  split
  · exact (giveUp s).andThen (arbitrate_cascade _)
  · exact ((Kept.ofCascade (leavePool_cascade s _)).trans (giveUp _)).andThen (arbitrate_cascade _)

theorem takeSupplyFault_kept (hc : changesSockets c = true) (k : SocketId) : Kept c s (takeSupplyFault s k) :=
  (modSocket_kept_of_ne_on hc fun x => by simp [Socket.unpower]).andThen (takeSupplyFault_cascade s k)

/-- The checks of POWER SOCKET ON are those of the supply law (R49, R50). -/
theorem powerOn_kept (hc : changesSockets c = true) {k : SocketId} (hr : s.inReset = false)
    (ho : (s.socket k).owner = some n) (hk : s.powerRefusal k = none) : Kept c s (powerOn s k) := by
  unfold powerOn
  split
  · exact Kept.refl s
  · split
    · exact takeSupplyFault_kept hc k
    · rename_i hfault
      refine Kept.andThen (Kept.modSocket s k _ hc fun _ _ => ?_) (arbitrate_cascade _)
      unfold State.powerRefusal at hk
      split_ifs at hk with habsent hcut
      have hpresent : (s.socket k).presence = .present := by
        cases h : (s.socket k).presence
        · exact absurd h habsent
        · rfl
      exact ⟨by simp [Socket.power, ho], hpresent, by simpa using hfault, by simpa using hcut, hr⟩

theorem powerOff_kept (hc : changesSockets c = true) (k : SocketId) : Kept c s (powerOff s k) := by
  unfold powerOff
  split
  · exact Kept.refl s
  · exact (modSocket_kept_of_ne_on hc fun x => by simp [Socket.unpower]).andThen (arbitrate_cascade _)

theorem replaceMask_kept (hc : writesMasks c = true) (m : MaskId) {contents : Option Mask}
    (h : ∀ d, contents = some d → d.valid = true) : Kept c s (replaceMask s m contents).1 :=
  Kept.modMask s m _ hc h

theorem writeMask_kept (hc : writesMasks c = true) (m : MaskId) (b : List Byte) : Kept c s (writeMask m b s).1 := by
  unfold writeMask
  split
  · exact Kept.refl s
  · split
    · exact Kept.refl s
    · rename_i hbody
      exact replaceMask_kept hc m fun d hd => by
        obtain rfl := Option.some.inj hd
        exact maskFields_valid hbody

theorem stationTune_kept (p : PairId) (f : Nat) : Kept c s (stationTune s p f) := by
  have h : Cascade s (acceptTuning (s.setRetune p none) p f) :=
    (Cascade.setRetune s p none).trans (acceptTuning_cascade _ p f)
  unfold stationTune
  dsimp only
  split
  · exact Kept.ofCascade (h.trans (plannerPass_cascade _))
  · exact Kept.ofCascade h

theorem tunePair_kept (p : PairId) (f : Nat) : Kept c s (tunePair s p f).1 := by
  unfold tunePair
  split_ifs
  · exact Kept.refl s
  · exact Kept.refl s
  · exact stationTune_kept p f

/-- A pool that is not full has room for one more request of the station (R86). -/
theorem poolFits_join {q : Request} (h : s.poolFull q.station = false) (w : s.poolFits) :
    (s.modPool (Pool.join q)).poolFits := by
  obtain ⟨htotal, hstation⟩ := w
  obtain ⟨hroom, hown⟩ := (Bool.or_eq_false_iff).mp h
  have hplaces : ¬ 32 ≤ s.pool.requests.length := of_decide_eq_false hroom
  have hstations : ¬ 16 ≤ (s.pool.requests.filter fun x => decide (x.station = q.station)).length :=
    of_decide_eq_false hown
  refine ⟨?_, fun j => ?_⟩
  · show (s.pool.requests ++ [q]).length ≤ 32
    simp only [List.length_append, List.length_cons, List.length_nil]
    omega
  · show ((s.pool.requests ++ [q]).filter fun x => decide (x.station = j)).length ≤ 16
    have hj : (s.pool.requests.filter fun x => decide (x.station = j)).length ≤ 16 := hstation j
    rw [List.filter_append, List.length_append]
    by_cases e : q.station = j
    · subst e
      simp only [List.filter_cons, decide_true, if_true, List.filter_nil, List.length_cons, List.length_nil]
      omega
    · simpa [e] using hj

theorem joinPool_kept {q : Request} (hp : portOf c = some q.station) (h : s.poolFull q.station = false) :
    Kept c s (joinPool s q) := by
  have h1 : Kept c s (s.modPool (Pool.join q)) := { Kept.refl (c := c) s with poolFits := poolFits_join h }
  have h2 := h1.andThen (Cascade.modMask _ q.mask (fun e => { e with refCount := e.refCount + 1 }) fun _ => rfl)
  have h3 := h2.andThen (Cascade.modSocket _ q.socket (Socket.queue q.ref) fun _ => rfl)
  exact h3.trans (Kept.modPort _ _ _ fun j hj => by simpa [hp] using hj.symm)

theorem submit_kept (hp : portOf c = some n) (k : SocketId) (kind : Kind) (loadGen number : Nat) :
    Kept c s (submit s n k kind loadGen number).1 := by
  unfold submit
  split
  · exact Kept.refl s
  · exact Kept.refl s
  · rename_i m d _ _
    split_ifs with hadmits hfull
    · exact Kept.refl s
    · exact Kept.refl s
    · have hjoin : Kept c s (joinPool s (requestFor s n k kind m d)) := 
        joinPool_kept hp (show s.poolFull n = false by simpa using hfull)
      simp only [acceptRequest]
      split
      · exact hjoin.andThen ((plannerPass_cascade _).trans (arbitrate_cascade _))
      · exact hjoin.andThen (arbitrate_cascade _)

theorem used_dropHead_le (r : Ring) : r.dropHead.used ≤ r.used := by
  cases r with
  | mk entries =>
    cases entries with
    | nil => exact Nat.le_refl _
    | cons e es => simp [Ring.dropHead, Ring.used]

theorem modRing_cascade (n : StationId) {f : Ring → Ring} (h : (f (s.ring n)).used ≤ (s.ring n).used) :
    Cascade s (s.modRing n f) :=
  Cascade.setRings s _ fun w j => by
    rw [updateAt_get]
    split
    · exact h.trans (w n)
    · exact w j

/-! ## Station reset -/

theorem stepDone_kept (hp : portOf c = none) (f : ResetProgress → ResetProgress) : Kept c s (s.stepDone n f) :=
  Kept.modPort s n _ fun j hj => by simp [hp] at hj

theorem emptyRing_cascade (s : State) (n : StationId) : Cascade s (emptyRing s n) :=
  (Cascade.setLanes s (Vector.ofFn fun l => (s.lane l).dropCopies n (s.ring n))).trans
    (modRing_cascade n (f := fun _ => Ring.reset) (Nat.zero_le _))

theorem releaseOwned_kept (hc : changesSockets c = true) : Kept c s (releaseOwned s n) :=
  Kept.setSockets s _ hc fun w k => by
    simp only [Fin.getElem_fin, Vector.getElem_ofFn]
    split
    · exact State.admitsSupply_of_ne_on (by simp [Socket.giveUp])
    · exact w k

end

end Sys2Proof.Machine
end

section
/-!
PROOFS. What the events keep, and what every command and event keeps (95_what_each_step_holds.md).
-/
namespace Sys2Proof.Machine

/-! ## Sockets -/

section
variable {c : Instr} {s : State}

theorem noticeSocket_kept (o : Option StationId) : Kept c s (s.noticeSocket o) := Kept.ofCascade (Cascade.noticeSocket s o)

/-- A rise makes presence PRESENT, which the supply law asks for. -/
theorem riseAccepted_kept (k : SocketId) : Completes (exec (.riseAccepted k) s) (Kept (.riseAccepted k) s) := by
  simp only [exec, execRiseAccepted]
  refine completes_next ?_
  split
  · exact Kept.refl s
  · split
    · exact Kept.refl s
    · refine ((Kept.reach s _).trans (Kept.modSocket _ k _ rfl fun w hon => ?_)).trans (noticeSocket_kept _)
      obtain ⟨ho, -, hrest⟩ := w hon
      exact ⟨ho, rfl, hrest⟩

theorem Socket.depart_supply_ne_on (x : Socket) : x.depart.supply ≠ .on := by
  show (if x.supply = .on then Supply.off else x.supply) ≠ .on
  split
  · simp
  · assumption

theorem fallAccepted_kept (k : SocketId) : Completes (exec (.fallAccepted k) s) (Kept (.fallAccepted k) s) := by
  simp only [exec, execFallAccepted]
  refine completes_next ?_
  split
  · exact Kept.refl s
  · exact (((Kept.reach s _).trans (modSocket_kept_of_ne_on rfl Socket.depart_supply_ne_on)).trans
      (noticeSocket_kept _)).andThen (dropOrAbort_cascade _ _ _)

theorem poweredForIncrease_kept (k : SocketId) :
    Completes (exec (.poweredForIncrease k) s) (Kept (.poweredForIncrease k) s) := by
  simp only [exec, execPoweredForIncrease]
  refine completes_next ?_
  split
  · have hsocket : Kept (.poweredForIncrease k) (s.reach (s.socket k).secondEnd)
        ((s.reach (s.socket k).secondEnd).modSocket k Socket.secondPassed) :=
      Kept.modSocket _ k _ rfl fun w => w.congr rfl rfl rfl
    exact ((Kept.reach s _).trans hsocket).andThen (arbitrate_cascade _)
  · exact Kept.refl s

theorem presentChange_kept (k : SocketId) (high : Bool) :
    Completes (exec (.presentChange k high) s) (Kept (.presentChange k high) s) := by
  have hlines : Kept (.presentChange k high) s (s.modLines fun x => { x with present := x.present.set k high }) :=
    Kept.modOtherLines s _ rfl rfl rfl rfl
  simp only [exec, execPresentChange]
  refine completes_next ?_
  split
  · exact hlines
  · exact hlines.trans (modSocket_kept_of_same rfl (fun _ => rfl) (fun _ => rfl) fun _ => rfl)

/-- SFAULT of a socket whose supply is not ON after the rise meets the supply law. -/
theorem supplyFault_kept (k : SocketId) (high : Bool) :
    Completes (exec (.supplyFault k high) s) (Kept (.supplyFault k high) s) := by
  simp only [exec, execSupplyFault]
  refine completes_next ?_
  split
  · refine Kept.andThen ?_ (takeSupplyFault_cascade _ k)
    exact
      { Kept.refl (c := .supplyFault k high) s with
        lines := fun h => by simp [drivesLines] at h
        socket := fun h => by simp [changesSockets] at h
        supplyLaw := fun _ w j hon => by
          rw [modSocket_socket] at hon ⊢
          split at hon
          · simp [Socket.unpower] at hon
          · rename_i hj
            obtain ⟨ho, hp, hf, hrest⟩ := w j hon
            rw [if_neg hj]
            refine ⟨ho, hp, ?_, hrest⟩
            have hjk : k.val ≠ j.val := fun e => hj (Fin.ext e.symm)
            simpa [hjk] using hf }
  · rename_i hquiet
    refine Kept.modLines s _ rfl (fun _ _ => ⟨rfl, rfl⟩) fun _ w j hon => ?_
    obtain ⟨-, -, hf, -, hr⟩ := w j hon
    by_cases e : k.val = j.val
    · obtain rfl : k = j := Fin.ext e
      cases high
      · simp
      · simp only [Bool.true_and, hr, Bool.not_false, hon, decide_true, Bool.and_true] at hquiet
        simp [hf] at hquiet
    · simpa [e] using hf

/-! ## The line monitor -/

/-- A change of the input levels and of the monitor together. -/
theorem modLinesMonitor_kept (s : State) (f : Lines → Lines) (g : LineMonitor → LineMonitor) (hc : drivesLines c = true)
    (hl : s.lineLaw → ((s.modLines f).modMonitor g).lineLaw) (hf : (f s.lines).sfault = s.lines.sfault)
    (hx : (g s.monitor).cutoff = true → s.monitor.cutoff = true) :
    Kept c s ((s.modLines f).modMonitor g) :=
  { Kept.refl (c := c) s with
    lines := fun hn => absurd hc (by simp [hn])
    lineLaw := hl
    supplyLaw := fun _ w k hon => by
      obtain ⟨ho, hp, hfault, hcut, hr⟩ := w k hon
      refine ⟨ho, hp, ?_, ?_, hr⟩
      · show (f s.lines).sfault[k] = false
        rw [hf]; exact hfault
      · show (g s.monitor).cutoff = false
        cases h : (g s.monitor).cutoff
        · rfl
        · exact absurd (hx h) (by simp [hcut]) }

theorem motionAssertion_kept : Completes (exec .motionAssertion s) (Kept .motionAssertion s) := by
  simp only [exec, execMotionAssertion]
  refine completes_next ?_
  split
  · rename_i h
    refine Kept.modLines s _ rfl (fun hr _ => ⟨?_, rfl⟩) fun _ w k hon => by
      obtain ⟨-, -, hf, -⟩ := w k hon
      exact hf
    simpa [hr] using Eq.symm h
  · refine Kept.andThen (modLinesMonitor_kept s _ _ rfl (fun w => ?_) rfl id)
      (Cascade.foldl motionAt motionAt_cascade allLanes _)
    obtain ⟨-, -, hlevels⟩ := w
    exact ⟨rfl, fun _ => rfl, fun hr => ⟨rfl, (hlevels hr).2⟩⟩

/-- The line that becomes quiet has MOTION low. -/
theorem becomeQuiet_kept (h : s.lineLaw → s.monitor.motion = false) : Kept c s (becomeQuiet s) := by
  refine Kept.andThen (Kept.modMonitor s _ rfl fun w => ?_) (becomeQuiet_cascade s)
  have hmotion := h w
  obtain ⟨-, -, hlevels⟩ := w
  exact ⟨by simp [State.modMonitor, hmotion], fun _ => rfl, hlevels⟩

/-- At a fall of MOTION no quiet timer runs: MOTION was high (R60, R61). -/
theorem motionFall_kept : Completes (exec .motionFall s) (Kept .motionFall s) := by
  simp only [exec, execMotionFall]
  refine completes_next ?_
  split
  · rename_i h
    refine Kept.modLines s _ rfl (fun hr _ => ⟨?_, rfl⟩) fun _ w k hon => by
      obtain ⟨-, -, hf, -⟩ := w k hon
      exact hf
    simpa [hr] using Eq.symm h
  · rename_i h
    have hlevel : s.inReset = false ∧ s.lines.motion = true := by simpa using h
    split
    · have hquiet := becomeQuiet_cascade
        ((s.modLines fun x => { x with motion := false }).modMonitor fun m => { m with motion := false })
      refine Kept.andThen (modLinesMonitor_kept s (fun x => { x with motion := false })
        (fun m => { m with motion := false, quiet := true, quietTimer := none }) rfl (fun w => ?_) rfl id) hquiet
      obtain ⟨-, -, hlevels⟩ := w
      exact ⟨rfl, fun _ => rfl, fun hr => ⟨rfl, (hlevels hr).2⟩⟩
    · refine modLinesMonitor_kept s (fun x => { x with motion := false }) (fun m => { m with
          motion := false
          quietTimer := some (s.now + s.monitor.quietTime.toNat * Config.millisecond) }) rfl (fun w => ?_) rfl id
      obtain ⟨hquiet, -, hlevels⟩ := w
      have hmotion : s.monitor.motion = true := (hlevels hlevel.1).1.trans hlevel.2
      refine ⟨?_, fun hm => absurd hm Bool.false_ne_true, fun hr => ⟨rfl, (hlevels hr).2⟩⟩
      show s.monitor.quiet = _
      rw [hquiet, hmotion]
      rfl

/-- A quiet timer runs only while MOTION is low (R61). -/
theorem quietTimerExpiry_kept : Completes (exec .quietTimerExpiry s) (Kept .quietTimerExpiry s) := by
  simp only [exec, execQuietTimerExpiry]
  refine completes_next ?_
  split
  · exact Kept.refl s
  · rename_i t ht
    refine (Kept.reach s t).trans (becomeQuiet_kept fun w => ?_)
    obtain ⟨-, htimer, -⟩ := w
    show s.monitor.motion = false
    cases hm : s.monitor.motion
    · rfl
    · exact absurd (htimer hm) (by simp [ht])

theorem unpowerAll_socket (s : State) (k : SocketId) :
    (unpowerAll s).socket k = if (s.socket k).supply = .on then (s.socket k).unpower .off else s.socket k := by
  simp only [unpowerAll, State.socket, Fin.getElem_fin, Vector.getElem_ofFn]

theorem unpowerAll_supply (s : State) (k : SocketId) : ((unpowerAll s).socket k).supply ≠ .on := by
  rw [unpowerAll_socket]
  split
  · simp [Socket.unpower]
  · assumption

/-- CUTOFF turns every supply off before anything else (R63). -/
theorem cutoffAssertion_kept : Completes (exec .cutoffAssertion s) (Kept .cutoffAssertion s) := by
  simp only [exec, execCutoffAssertion]
  refine completes_next ?_
  split
  · rename_i h
    refine Kept.modLines s _ rfl (fun hr _ => ⟨rfl, ?_⟩) fun _ w k hon => by
      obtain ⟨-, -, hf, -⟩ := w k hon
      exact hf
    simpa [hr] using Eq.symm h
  · refine Kept.andThen ?_ (((Cascade.foldl _ (abortWhere_cascade Option.isSome .cutoff) allLanes _).trans
      (arbitrate_cascade _)).trans (Cascade.latchAll _ _))
    exact
      { Kept.refl (c := .cutoffAssertion) s with
        lines := fun hn => by simp [drivesLines] at hn
        socket := fun hn => by simp [changesSockets] at hn
        lineLaw := fun ⟨hquiet, htimer, hlevels⟩ => ⟨hquiet, htimer, fun hr => ⟨(hlevels hr).1, rfl⟩⟩
        supplyLaw := fun _ _ k hon => absurd hon (unpowerAll_supply _ k) }

theorem cutoffDeassertion_kept : Completes (exec .cutoffDeassertion s) (Kept .cutoffDeassertion s) := by
  simp only [exec, execCutoffDeassertion]
  refine completes_next ?_
  split
  · rename_i h
    exact Kept.modLines s _ rfl (fun hr _ => absurd h (by simp [hr])) fun _ w k hon => by
      obtain ⟨-, -, hf, -⟩ := w k hon
      exact hf
  · refine modLinesMonitor_kept s _ _ rfl (fun w => ?_) rfl fun h => absurd h Bool.false_ne_true
    obtain ⟨hquiet, htimer, hlevels⟩ := w
    exact ⟨hquiet, htimer, fun hr => ⟨(hlevels hr).1, rfl⟩⟩

/-! ## Pairs -/

theorem holdInt_bounds {lo hi x : Int} (h : lo ≤ hi) : lo ≤ holdInt lo hi x ∧ holdInt lo hi x ≤ hi := by
  unfold holdInt
  omega

/-- The floors of a calibration are held within -1900 to -1000 (R76). -/
theorem Pair.takeFloors_lawful (measured : Vector Level 8) {p : Pair} (h : p.lawful) :
    (Pair.takeFloors measured p).lawful := by
  obtain ⟨hrange, hattempts, -⟩ := h
  refine ⟨hrange, hattempts, fun d => ?_⟩
  show -1900 ≤ (calibratedFloors _ measured)[d] ∧ (calibratedFloors _ measured)[d] ≤ -1000
  simp only [calibratedFloors, Fin.getElem_fin, Vector.getElem_ofFn]
  split
  · exact holdInt_bounds (by omega)
  · omega

/-- A timer of the pair that runs in a state other than FAULT ends in a failed attempt. -/
theorem timerFails_kept (p : PairId) {x : PairState} {timer : Option Nat} {t : Nat} (why : PairFailure)
    (h : (s.pair p).timerIn x timer = some t) (hx : x ≠ .fault) : Kept c s (failAttempt (s.reach t) p why) := by
  obtain ⟨hstate, -⟩ := timerIn_some h
  exact (Kept.reach s t).andThen (failAttempt_cascade _ p why (by rw [reach_pair, hstate]; exact hx))

theorem settleTimerExpiry_kept (p : PairId) :
    Completes (exec (.settleTimerExpiry p) s) (Kept (.settleTimerExpiry p) s) := by
  simp only [exec, execSettleTimerExpiry]
  refine completes_next ?_
  split
  · exact Kept.refl s
  · rename_i t ht
    obtain ⟨hstate, -⟩ := timerIn_some ht
    split
    · exact (Kept.reach s t).andThen (enterReady_cascade _ p)
    · exact (Kept.reach s t).andThen (pairMove_cascade _ p _ (by simp [hstate]) rfl rfl rfl rfl)

theorem calibrationCompletion_kept (p : PairId) (measured : Vector Level 8) :
    Completes (exec (.calibrationCompletion p measured) s) (Kept (.calibrationCompletion p measured) s) := by
  simp only [exec, execCalibrationCompletion]
  refine completes_next ?_
  split
  · exact (Kept.modPair s p _ (Pair.takeFloors_lawful measured)).andThen (enterReady_cascade _ p)
  · exact Kept.refl s

theorem lockRise_kept (a : SynthAddr) : Completes (exec (.lockRise a) s) (Kept (.lockRise a) s) := by
  have hlines : Kept (.lockRise a) s (s.modLines fun x => { x with lock := x.lock.set a true }) :=
    Kept.modOtherLines s _ rfl rfl rfl rfl
  simp only [exec, execLockRise]
  refine completes_next ?_
  split
  · exact hlines
  · split
    · exact hlines.andThen (gainLock_cascade _ _)
    · exact hlines

theorem lockFall_kept (a : SynthAddr) : Completes (exec (.lockFall a) s) (Kept (.lockFall a) s) := by
  have hlines : Kept (.lockFall a) s (s.modLines fun x => { x with lock := x.lock.set a false }) :=
    Kept.modOtherLines s _ rfl rfl rfl rfl
  simp only [exec, execLockFall]
  refine completes_next ?_
  split
  · exact hlines
  · exact hlines.andThen (loseLock_cascade _ _)

/-! ## The ports' lines -/

theorem select_kept (n : StationId) (high : Bool) (hc : drivesLines c = true) : Kept c s (s.select n high) :=
  Kept.modOtherLines s _ hc rfl rfl rfl

theorem setSrstn_kept (n : StationId) (high : Bool) (hc : drivesLines c = true) : Kept c s (s.setSrstn n high) :=
  Kept.modOtherLines s _ hc rfl rfl rfl

/-- An event's change of a port: an event is no command of any port. -/
theorem eventPort_kept (n : StationId) (f : Port → Port) (hc : portOf c = none) : Kept c s (s.modPort n f) :=
  Kept.modPort s n f fun j hj => by simp [hc] at hj

theorem srstnAssertion_kept (x : SrstnLow) : Completes (exec (.srstnAssertion x) s) (Kept (.srstnAssertion x) s) := by
  have hlines : Kept (.srstnAssertion x) s (s.setSrstn x.station false) := setSrstn_kept _ _ rfl
  simp only [exec, execSrstnAssertion]
  refine completes_next ?_
  split
  · exact hlines
  · split
    · exact hlines.trans (eventPort_kept _ _ rfl)
    · exact Kept.refl s
    · exact hlines.trans (eventPort_kept _ _ rfl)
    · exact Kept.refl s
    · exact (Kept.reach s _).trans (eventPort_kept _ _ rfl)

theorem srstnRelease_kept (n : StationId) : Completes (exec (.srstnRelease n) s) (Kept (.srstnRelease n) s) := by
  have hlines : Kept (.srstnRelease n) s ((s.setSrstn n true).modPort n fun p => { p with resetLow := none }) :=
    (setSrstn_kept _ _ rfl).trans (eventPort_kept _ _ rfl)
  simp only [exec, execSrstnRelease]
  refine completes_next ?_
  split
  · exact hlines.trans (eventPort_kept _ _ rfl)
  · exact hlines

theorem csnFall_kept (n : StationId) : Completes (exec (.csnFall n) s) (Kept (.csnFall n) s) := by
  simp only [exec, execCsnFall]
  refine completes_next ?_
  split
  · exact (select_kept n false rfl).trans (eventPort_kept _ _ rfl)
  · exact select_kept n false rfl

theorem etuInputTransition_kept (k : SocketId) (high : Bool) (stamp : Stamp) :
    Completes (exec (.etuInputTransition k high stamp) s) (Kept (.etuInputTransition k high stamp) s) := by
  have hlines : Kept (.etuInputTransition k high stamp) s (s.modLines fun x => { x with signal := x.signal.set k high }) :=
    Kept.modOtherLines s _ rfl rfl rfl rfl
  simp only [exec, execEtuInputTransition]
  refine completes_next ?_
  split
  · exact hlines
  · split
    · exact hlines.trans (Kept.reachStamp _ _)
    · exact (hlines.trans (Kept.reachStamp _ _)).andThen (inputTransition_cascade _ _ _ _)

theorem afterCountersRead_kept (first count : Nat) : Kept c s (afterCountersRead s first count) := by
  unfold afterCountersRead
  split
  · exact Kept.modCounters s _ (.inr rfl)
  · exact Kept.refl s

/-! ## Every command and event -/

/-- A command or event other than a device reset completes, and keeps what it does not own and the laws. -/
theorem exec_kept (c : Instr) (s : State) (h1 : c ≠ .deviceReset) (h2 : c ≠ .deviceResetEnd) :
    Completes (exec c s) (Kept c s) := by
  cases c with
  | getStatus n b => exact fixedCommand_kept rfl fun _ => clearOnRead_kept rfl
  | ackNotices n b =>
    refine fixedCommand_kept rfl fun _ => ?_
    split
    · exact Kept.refl s
    · exact latch_kept (s := s) (n := n) rfl fun l => l.without (noticesOf (field8 b 0))
  | setPortMode n b =>
    refine fixedCommand_kept rfl fun _ => ?_
    split
    · exact Kept.refl s
    · exact Kept.modPort s n _ fun j hj => by simpa [portOf] using hj.symm
  | stationReset n b =>
    simp only [exec, execStationReset]
    split
    · refine completes_next ?_
      split
      · exact Kept.modPort s n _ fun j hj => by simpa [portOf] using hj.symm
      · exact Kept.refl s
    · exact command_kept rfl fun _ => Kept.refl s
  | claimSocket n b =>
    refine fixedCommand_kept rfl fun _ => ?_
    split
    · exact Kept.refl s
    · exact claim_kept rfl _
  | releaseSocket n b =>
    refine fixedCommand_kept rfl fun _ => ownedSocket_keeps (Kept.refl s) fun k _ => ?_
    split
    · exact Kept.refl s
    · exact releaseSocket_kept rfl k
  | powerSocketOn n b =>
    refine fixedCommand_kept rfl fun ht => ?_
    obtain ⟨hr, -, -⟩ := (takes_iff s n).mp ht
    split
    · exact Kept.refl s
    · refine ownedSocket_keeps (Kept.refl s) fun k hk => ?_
      split
      · exact Kept.refl s
      · exact powerOn_kept rfl hr hk ‹_›
  | powerSocketOff n b =>
    refine fixedCommand_kept rfl fun _ => ?_
    split
    · exact Kept.refl s
    · refine ownedSocket_keeps (Kept.refl s) fun k _ => ?_
      split
      · exact Kept.refl s
      · exact powerOff_kept rfl k
  | setEfc n b =>
    refine fixedCommand_kept rfl fun _ => ?_
    split
    · exact Kept.refl s
    · refine ownedSocket_keeps (Kept.refl s) fun k _ => ?_
      split
      · exact Kept.refl s
      · exact modSocket_kept_of_same rfl (fun _ => rfl) (fun _ => rfl) fun _ => rfl
  | querySocket n b =>
    refine fixedCommand_kept rfl fun _ => ?_
    split
    · exact Kept.refl s
    · dsimp only
      split
      · exact modSocket_kept_of_same rfl (fun _ => rfl) (fun _ => rfl) fun _ => rfl
      · exact Kept.refl s
  | setQuietTime n b =>
    exact fixedCommand_kept rfl fun _ => Kept.modMonitor s (fun m => { m with quietTime := byteAt b 0 }) rfl id
  | writeMask n b =>
    refine command_kept rfl fun _ => ?_
    split
    · exact Kept.refl s
    · split
      · exact Kept.refl s
      · exact writeMask_kept rfl _ b
  | eraseMask n b =>
    refine fixedCommand_kept rfl fun _ => ?_
    split
    · exact Kept.refl s
    · split_ifs
      · exact Kept.refl s
      · exact Kept.refl s
      · exact replaceMask_kept rfl _ fun d hd => by simp at hd
  | readMask n b =>
    refine fixedCommand_kept rfl fun _ => ?_
    split <;> exact Kept.refl s
  | tunePair n b =>
    refine fixedCommand_kept rfl fun _ => ?_
    split
    · exact Kept.refl s
    · exact tunePair_kept _ _
  | queryPair n b =>
    refine fixedCommand_kept rfl fun _ => ?_
    split <;> exact Kept.refl s
  | submit n b =>
    refine fixedCommand_kept rfl fun _ => ?_
    split
    · exact submit_kept rfl _ _ _ _
    · exact Kept.refl s
  | cancel n b =>
    refine fixedCommand_kept rfl fun _ => ?_
    split
    · exact Kept.refl s
    · exact Kept.ofCascade (cancelAt_cascade s _)
  | queryRequest n b =>
    refine fixedCommand_kept rfl fun _ => ?_
    split
    · exact Kept.refl s
    · split <;> exact Kept.refl s
  | queryLane n b =>
    refine fixedCommand_kept rfl fun _ => ?_
    split <;> exact Kept.refl s
  | readRecord n b =>
    refine fixedCommand_kept rfl fun _ => ?_
    split
    · exact Kept.refl s
    · exact Kept.ofCascade ((modRing_cascade n (used_dropHead_le _)).trans (arbitrate_cascade _))
  | readCounters n b =>
    refine fixedCommand_kept rfl fun _ => ?_
    split
    · exact Kept.refl s
    · exact afterCountersRead_kept _ _
  | counterControl n b =>
    refine fixedCommand_kept rfl fun _ => ?_
    split
    · exact Kept.refl s
    · exact Kept.modCounters s (fun x => (x.configure (field8 b 0)).act (field8 b 1)) (.inl rfl)
  | unknownCommand n code b =>
    refine command_kept rfl fun _ => ?_
    split <;> exact Kept.refl s
  | frameLengthError n len =>
    simp only [exec, execFrameLengthError]
    split
    · exact completes_takeCommand (Kept.refl s) (fun u a h => h.trans (eventPort_kept n _ rfl)) fun _ => Kept.refl s
    · exact completes_next (Kept.refl s)
  | csnFall n => exact csnFall_kept n
  | csnRise n => exact completes_next ((select_kept n true rfl).trans (eventPort_kept _ _ rfl))
  | srstnAssertion x => exact srstnAssertion_kept x
  | resetStepPool n =>
    refine completes_resetStep (Kept.refl s) ?_
    exact (Kept.ofCascade ((leaveAll_cascade s _).trans (arbitrate_cascade _))).trans (stepDone_kept rfl _)
  | resetStepLanes n =>
    refine completes_resetStep (Kept.refl s) ?_
    exact (Kept.ofCascade (Cascade.foldl _ (abortWhere_cascade _ _) allLanes s)).trans (stepDone_kept rfl _)
  | resetStepRing n =>
    refine completes_resetStep (Kept.refl s) ?_
    exact (Kept.ofCascade ((emptyRing_cascade s n).trans (arbitrate_cascade _))).trans (stepDone_kept rfl _)
  | resetStepSockets n =>
    refine completes_resetStep (Kept.refl s) ?_
    exact ((releaseOwned_kept rfl).andThen (arbitrate_cascade _)).trans (stepDone_kept rfl _)
  | resetStepPort n =>
    refine completes_resetStep (Kept.refl s) ?_
    exact (eventPort_kept n _ rfl).trans (stepDone_kept rfl _)
  | resetStepRequestIds n =>
    refine completes_resetStep (Kept.refl s) ?_
    dsimp only
    split
    · exact (eventPort_kept n _ rfl).trans (eventPort_kept n _ rfl)
    · exact (eventPort_kept n _ rfl).trans (eventPort_kept n _ rfl)
  | srstnRelease n => exact srstnRelease_kept n
  | deviceReset => exact absurd rfl h1
  | deviceResetEnd => exact absurd rfl h2
  | presentChange k high => exact presentChange_kept k high
  | riseAccepted k => exact riseAccepted_kept k
  | fallAccepted k => exact fallAccepted_kept k
  | supplyFault k high => exact supplyFault_kept k high
  | poweredForIncrease k => exact poweredForIncrease_kept k
  | motionAssertion => exact motionAssertion_kept
  | motionFall => exact motionFall_kept
  | quietTimerExpiry => exact quietTimerExpiry_kept
  | cutoffAssertion => exact cutoffAssertion_kept
  | cutoffDeassertion => exact cutoffDeassertion_kept
  | rmlWriteComplete =>
    simp only [exec, execRmlWriteComplete]
    refine completes_next ?_
    split
    · exact Kept.ofCascade ((Cascade.modLink s _).trans (linkGrant_cascade _))
    · exact Kept.refl s
  | rmlReadIncrementComplete words =>
    simp only [exec, execRmlReadIncrementComplete]
    refine completes_next ?_
    split
    · exact Kept.ofCascade (((Cascade.modLink s _).trans (takeReadback_cascade _ _ _ _)).trans (linkGrant_cascade _))
    · exact Kept.refl s
  | lockRise a => exact lockRise_kept a
  | lockFall a => exact lockFall_kept a
  | lockTimerExpiry p =>
    simp only [exec, execLockTimerExpiry]
    refine completes_next ?_
    split
    · exact Kept.refl s
    · exact timerFails_kept p _ ‹_› (by simp)
  | settleTimerExpiry p => exact settleTimerExpiry_kept p
  | calibrationCompletion p measured => exact calibrationCompletion_kept p measured
  | relockTimerExpiry p =>
    simp only [exec, execRelockTimerExpiry]
    refine completes_next ?_
    split
    · exact Kept.refl s
    · exact timerFails_kept p _ ‹_› (by simp)
  | countedSegmentCompletion l segment =>
    simp only [exec, execCountedSegmentCompletion]
    refine completes_next ?_
    split
    · exact Kept.refl s
    · exact (Kept.reach s _).andThen (completeCounted_cascade _ _ _ _)
  | settleCompletion l =>
    simp only [exec, execSettleCompletion]
    refine completes_next ?_
    split
    · exact Kept.refl s
    · exact (Kept.reach s _).andThen ((comeToStart_cascade _ _ _).trans (arbitrate_cascade _))
  | efcSettleExpiry l =>
    simp only [exec, execEfcSettleExpiry]
    refine completes_next ?_
    split
    · exact Kept.refl s
    · exact (Kept.reach s _).andThen ((Cascade.modLane _ l _).trans (startEtu_cascade _ _ _))
  | runTimerExpiry l =>
    simp only [exec, execRunTimerExpiry]
    refine completes_next ?_
    split
    · exact Kept.refl s
    · exact (Kept.reach s _).andThen (endActive_cascade _ _ _ _)
  | etuInputTransition k high stamp => exact etuInputTransition_kept k high stamp
  | filterWidthExpiry l =>
    simp only [exec, execFilterWidthExpiry]
    refine completes_next ?_
    split
    · exact Kept.refl s
    · split
      · exact (Kept.reach s _).andThen (acceptEdge_cascade _ _ _ _)
      · exact Kept.refl s
  | edgeTimeout l =>
    simp only [exec, execEdgeTimeout]
    refine completes_next ?_
    split
    · exact Kept.refl s
    · exact (Kept.reach s _).andThen ((Cascade.modLane _ l _).trans (endActive_cascade _ _ _ _))
  | answerShiftedOut n =>
    simp only [exec, execAnswerShiftedOut]
    refine completes_next ?_
    split
    · exact eventPort_kept n _ rfl
    · exact Kept.refl s

end

end Sys2Proof.Machine
end

section
/-!
PROOFS. Steps and the queue, and the laws every step keeps but the work's: O1, O2, O56, O59
(95_what_each_step_holds.md).
-/
namespace Sys2Proof.Machine

/-! ## Device reset -/

theorem ofReset_socket (x : Lines) (q : List Instr) (k : SocketId) :
    (State.ofReset x q).socket k = Socket.reset x.present[k] := by
  simp [State.ofReset, State.socket]

theorem ofReset_mask (x : Lines) (q : List Instr) (m : MaskId) : (State.ofReset x q).mask m = MaskEntry.reset := by
  simp [State.ofReset, State.mask]

theorem ofReset_pair (x : Lines) (q : List Instr) (p : PairId) : (State.ofReset x q).pair p = Pair.reset := by
  simp [State.ofReset, State.pair]

theorem ofReset_lane (x : Lines) (q : List Instr) (l : LaneId) : (State.ofReset x q).lane l = Lane.reset := by
  simp [State.ofReset, State.lane]

theorem ofReset_ring (x : Lines) (q : List Instr) (n : StationId) : (State.ofReset x q).ring n = Ring.reset := by
  simp [State.ofReset, State.ring]

theorem ofReset_port (x : Lines) (q : List Instr) (n : StationId) :
    (State.ofReset x q).port n = Port.reset x.srstn[n] := by
  simp [State.ofReset, State.port]

theorem ofReset_ringsFit (x : Lines) (q : List Instr) : (State.ofReset x q).ringsFit := fun n => by
  rw [ofReset_ring]
  exact Nat.zero_le 512

theorem ofReset_masksValid (x : Lines) (q : List Instr) : (State.ofReset x q).masksValid := fun m c h => by
  rw [ofReset_mask] at h
  simp [MaskEntry.reset] at h

theorem ofReset_poolFits (x : Lines) (q : List Instr) : (State.ofReset x q).poolFits :=
  ⟨Nat.zero_le 32, fun _ => Nat.zero_le 16⟩

theorem ofReset_lineLaw (x : Lines) (q : List Instr) : (State.ofReset x q).lineLaw :=
  ⟨(Bool.and_true _).symm, fun _ => rfl, fun _ => ⟨rfl, rfl⟩⟩

theorem Socket.reset_supply (present : Bool) : (Socket.reset present).supply ≠ .on := by simp [Socket.reset]

theorem ofReset_supply (x : Lines) (q : List Instr) (k : SocketId) : ((State.ofReset x q).socket k).supply ≠ .on := by
  rw [ofReset_socket]
  exact Socket.reset_supply _

theorem ofReset_supplyLaw (x : Lines) (q : List Instr) : (State.ofReset x q).supplyLaw := fun k hon =>
  absurd hon (ofReset_supply x q k)

theorem Pair.reset_lawful : Pair.reset.lawful := by
  refine ⟨rfl, .inl (Nat.zero_le 2), fun d => ?_⟩
  simp [Pair.reset]

theorem ofReset_pairsLawful (x : Lines) (q : List Instr) : (State.ofReset x q).pairsLawful := fun p => by
  rw [ofReset_pair]
  exact Pair.reset_lawful

theorem Lane.reset_lawful : Lane.reset.lawful :=
  ⟨by simp [Lane.reset], fun _ => rfl, rfl, by simp [Lane.reset], rfl⟩

theorem ofReset_lanesLawful (x : Lines) (q : List Instr) : (State.ofReset x q).lanesLawful := fun l => by
  rw [ofReset_lane]
  exact Lane.reset_lawful

/-- What holds during a device reset and at its end holds after its two commands. -/
theorem exec_deviceReset_keeps {P : State → Prop} {s t : State} (h : exec .deviceReset s = .next t)
    (hp : P { State.ofReset s.lines s.pending with inReset := true, ports := Vector.replicate 4 Port.duringReset }) :
    P t := by
  simp only [exec, execDeviceReset] at h
  injection h with h
  exact h ▸ hp

theorem exec_deviceResetEnd_keeps {P : State → Prop} {s t : State} (h : exec .deviceResetEnd s = .next t)
    (hs : P s) (hp : P (State.ofReset s.lines s.pending)) : P t := by
  simp only [exec, execDeviceResetEnd] at h
  injection h with h
  rw [← h]
  split
  · exact hp
  · exact hs

/-- The laws of Safety.lean that no other block's law is needed for. -/
def State.keepsLaws (s t : State) : Prop :=
  (s.ringsFit → t.ringsFit) ∧ (s.masksValid → t.masksValid) ∧ (s.poolFits → t.poolFits) ∧ (s.lineLaw → t.lineLaw) ∧
  (s.lineLaw → s.supplyLaw → t.supplyLaw) ∧ (s.pairsLawful → t.pairsLawful)

theorem Kept.keepsLaws {c : Instr} {s t : State} (h : Kept c s t) : s.keepsLaws t :=
  ⟨h.rings, h.masksValid, h.poolFits, h.lineLaw, h.supplyLaw, h.pairs⟩

theorem ofReset_keepsLaws (s : State) (x : Lines) (q : List Instr) : s.keepsLaws (State.ofReset x q) :=
  ⟨fun _ => ofReset_ringsFit x q, fun _ => ofReset_masksValid x q, fun _ => ofReset_poolFits x q,
   fun _ => ofReset_lineLaw x q, fun _ _ => ofReset_supplyLaw x q, fun _ => ofReset_pairsLawful x q⟩

theorem State.keepsLaws.refl (s : State) : s.keepsLaws s := ⟨id, id, id, id, fun _ => id, id⟩

/-- Every command and event keeps the laws. -/
theorem exec_keepsLaws {c : Instr} {s t : State} (h : exec c s = .next t) : s.keepsLaws t := by
  by_cases h1 : c = .deviceReset
  · subst h1
    refine exec_deviceReset_keeps h ?_
    obtain ⟨hquiet, htimer, -⟩ := ofReset_lineLaw s.lines s.pending
    exact ⟨fun _ => ofReset_ringsFit s.lines s.pending, fun _ => ofReset_masksValid s.lines s.pending,
      fun _ => ofReset_poolFits s.lines s.pending,
      fun _ => ⟨hquiet, htimer, fun hr => absurd hr (by simp)⟩,
      fun _ _ k hon => absurd hon (ofReset_supply s.lines s.pending k),
      fun _ => ofReset_pairsLawful s.lines s.pending⟩
  · by_cases h2 : c = .deviceResetEnd
    · subst h2
      exact exec_deviceResetEnd_keeps h (State.keepsLaws.refl s) (ofReset_keepsLaws s _ _)
    · exact ((exec_kept c s h1 h2).next h).keepsLaws

/-- A step is a tick, or `exec` of the front of the queue on its rest. -/
theorem step_cases {s t : State} (h : step s = .next t) :
    t = s.tick ∨ ∃ c rest, s.pending = c :: rest ∧ exec c { s with pending := rest } = .next t := by
  unfold step at h
  split at h
  · injection h with h
    exact .inl h.symm
  · exact .inr ⟨_, _, ‹_›, h⟩

theorem step_keepsLaws {s t : State} (h : step s = .next t) : s.keepsLaws t := by
  rcases step_cases h with rfl | ⟨c, rest, -, h⟩
  · exact State.keepsLaws.refl s
  · have hkeeps : ({ s with pending := rest } : State).keepsLaws t := exec_keepsLaws h
    exact hkeeps

/-! ## The obligations -/

/-- Settles O1, by the definition of a step. -/
theorem stepRunsFrontCommand : Obligations.StepRunsFrontCommand := by
  unfold Obligations.StepRunsFrontCommand
  refine ⟨fun _ _ => rfl, fun s h => ?_⟩
  simp only [step, h, State.tick]

/-- Settles O2, by `exec_kept`; the device resets keep the queue by themselves. -/
theorem everyCommandCompletesAndKeepsQueue : Obligations.EveryCommandCompletesAndKeepsQueue := by
  unfold Obligations.EveryCommandCompletesAndKeepsQueue
  intro c s
  by_cases h1 : c = .deviceReset
  · subst h1
    exact ⟨_, rfl, rfl⟩
  · by_cases h2 : c = .deviceResetEnd
    · subst h2
      refine ⟨_, rfl, ?_⟩
      split <;> rfl
    · obtain ⟨t, ht, hk⟩ := exec_kept c s h1 h2
      exact ⟨t, ht, hk.pending⟩

/-- Settles O56, by `step_keepsLaws`. -/
theorem stepKeepsRingMaskPoolLineAndSupplyLaws : Obligations.StepKeepsRingMaskPoolLineAndSupplyLaws := by
  unfold Obligations.StepKeepsRingMaskPoolLineAndSupplyLaws
  intro s t h
  obtain ⟨hrings, hmasks, hpool, hline, hsupply, -⟩ := step_keepsLaws h
  exact ⟨hrings, hmasks, hpool, hline, hsupply⟩

/-! ## What a command leaves alone (R37, R38) -/

theorem replaceMask_other {s : State} {m j : MaskId} {contents : Option Mask} (h : j ≠ m) :
    ((replaceMask s m contents).1.mask j).text = (s.mask j).text := by
  simp [replaceMask, h]

theorem writeMask_counted {s : State} {m j : MaskId} {b : List Byte} (h : 0 < (s.mask j).refCount) :
    ((writeMask m b s).1.mask j).text = (s.mask j).text := by
  unfold writeMask
  split
  · rfl
  · split
    · rfl
    · exact replaceMask_other fun e => by subst e; contradiction

/-- A mask with a live request is not written (R37, R38). -/
theorem exec_mask_counted {c : Instr} {s t : State} (h : exec c s = .next t) (h1 : c ≠ .deviceReset)
    (h2 : c ≠ .deviceResetEnd) (m : MaskId) (hm : 0 < (s.mask m).refCount) : (t.mask m).text = (s.mask m).text := by
  have hself : ((s.mask m).text = (s.mask m).text) := rfl
  cases hw : writesMasks c
  · exact ((exec_kept c s h1 h2).next h).mask hw m
  · refine Completes.next (P := fun t => (t.mask m).text = (s.mask m).text) ?_ h
    cases c with
    | writeMask n b =>
      refine completes_takeCommand hself (fun _ _ hu => hu) fun _ => ?_
      split
      · rfl
      · split
        · rfl
        · exact writeMask_counted hm
    | eraseMask n b =>
      refine completes_takeCommand hself (fun _ _ hu => hu) fun _ =>
        fixedLength_keeps (P := fun t => (t.mask m).text = (s.mask m).text) hself ?_
      split
      · rfl
      · split_ifs
        · rfl
        · rfl
        · exact replaceMask_other fun e => by subst e; contradiction
    | _ => simp [writesMasks] at hw

/-- Settles O59, by `exec_kept`. -/
theorem commandsLeaveOtherBlocksAlone : Obligations.CommandsLeaveOtherBlocksAlone := by
  unfold Obligations.CommandsLeaveOtherBlocksAlone
  intro c s t h h1 h2
  have hk := (exec_kept c s h1 h2).next h
  refine ⟨fun m hm => ?_, fun n j hn hj => ?_, ?_, ?_, ?_⟩
  · simpa [MaskEntry.text] using exec_mask_counted h h1 h2 m hm
  · have hport := hk.port n j hn hj
    simp only [Port.fixed] at hport
    calc ({ t.port j with latched := (s.port j).latched } : Port)
        = { ({ t.port j with latched := Latched.empty } : Port) with latched := (s.port j).latched } := rfl
      _ = s.port j := by rw [hport]
  · have hlines := hk.lines
    cases c <;> try trivial
    all_goals exact hlines rfl
  · have hsettings := hk.settings
    simp only [Counters.settings, Prod.mk.injEq] at hsettings
    cases c <;> try trivial
    all_goals exact hsettings rfl
  · have hsocket : changesSockets c = false → ∀ k, (t.socket k).presence = (s.socket k).presence ∧
        (t.socket k).loadGen = (s.socket k).loadGen ∧ (t.socket k).rose = (s.socket k).rose ∧
        (t.socket k).fell = (s.socket k).fell ∧ (t.socket k).owner = (s.socket k).owner ∧
        (t.socket k).supply = (s.socket k).supply ∧ (t.socket k).poweredFor = (s.socket k).poweredFor ∧
        (t.socket k).efcCode = (s.socket k).efcCode := fun hc k => by
      have hfixed := hk.socket hc k
      simp only [Socket.fixed, Prod.mk.injEq] at hfixed
      obtain ⟨hp, -, hg, hrose, hfell, ho, hs, hf, -, he⟩ := hfixed
      exact ⟨hp, hg, hrose, hfell, ho, hs, hf, he⟩
    cases c <;> try trivial
    all_goals exact hsocket rfl

end Sys2Proof.Machine
end

section
/-!
PROOFS. Every command and event keeps the law of lanes and, with it, the law of the work: O57, O58
(95_what_each_step_holds.md). One lemma per own change of a command; the shared operations have theirs in Laws/.
-/
namespace Sys2Proof.Machine

/-- From s to t the law of lanes is kept, and with it the law of the work. -/
structure Worked (s t : State) : Prop where
  lanes : s.lanesLawful → t.lanesLawful
  work : s.lanesLawful → Work s [] → Work t []

namespace Worked

theorem refl (s : State) : Worked s s := ⟨id, fun _ => id⟩

theorem trans {s t u : State} (a : Worked s t) (b : Worked t u) : Worked s u :=
  ⟨fun v => b.lanes (a.lanes v), fun v w => b.work (a.lanes v) (a.work v w)⟩

/-- A change of what neither law reads. -/
theorem aside {s t : State} (hr : t.pool.requests = s.pool.requests) (hm : t.masks = s.masks) (hp : t.pairs = s.pairs)
    (hk : t.sockets = s.sockets) (hl : t.lanes = s.lanes) : Worked s t :=
  ⟨fun v => lanesLawful_of_eq v fun j => by simp [State.lane, hl], fun _ w => w.aside hr hm hp hk hl⟩

/-- A change that the law of the work does not read, away from the lanes. -/
theorem ofSame {s t : State} (h : SameWork s t) (hl : ∀ j, t.lane j = s.lane j) : Worked s t :=
  ⟨fun v => lanesLawful_of_eq v hl, fun _ => h.work⟩

/-- A change of the lanes that keeps the law of lanes and that the law of the work does not read. -/
theorem ofLanes {s t : State} (h : SameWork s t) (hl : s.lanesLawful → t.lanesLawful) : Worked s t :=
  ⟨hl, fun _ => h.work⟩

theorem andArbitrate {s t : State} (a : Worked s t) : Worked s (arbitrate t) :=
  a.trans ⟨arbitrate_lawful t, fun v w => arbitrate_work w v⟩

theorem modSocket (s : State) (k : SocketId) (f : Socket → Socket) (h : ∀ x, (f x).tags = x.tags) :
    Worked s (s.modSocket k f) := ofSame (SameWork.modSocket s k f h) fun _ => rfl

theorem modPair (s : State) (p : PairId) (f : Pair → Pair) (h : (f (s.pair p)).attachments = (s.pair p).attachments) :
    Worked s (s.modPair p f) := ofSame (SameWork.modPair s p f h) fun _ => rfl

theorem reach (s : State) (t : Nat) : Worked s (s.reach t) := aside rfl rfl rfl rfl rfl

theorem modPort (s : State) (n : StationId) (f : Port → Port) : Worked s (s.modPort n f) := aside rfl rfl rfl rfl rfl

theorem latchAll (s : State) (f : Latched → Latched) : Worked s (s.latchAll f) := aside rfl rfl rfl rfl rfl

theorem modCounters (s : State) (f : Counters → Counters) : Worked s (s.modCounters f) := aside rfl rfl rfl rfl rfl

theorem modLines (s : State) (f : Lines → Lines) : Worked s (s.modLines f) := aside rfl rfl rfl rfl rfl

theorem modMonitor (s : State) (f : LineMonitor → LineMonitor) : Worked s (s.modMonitor f) := aside rfl rfl rfl rfl rfl

/-- The lane's unit or interval alone. -/
theorem modLaneTiming (s : State) (l : LaneId) (e : Lane → Etu) (i : Lane → Option Nat) :
    Worked s (s.modLane l fun x => { x with etu := e x, interval := i x }) :=
  ofLanes (SameWork.modLane s l _ rfl rfl (.inr rfl)) fun v => modLane_lawful s l _ v id

end Worked

/-! ## Commands -/

section
variable {n : StationId} {s : State}

theorem command_worked {block : State × Answer} (hb : Worked s block.1) : Completes (takeCommand n s block) (Worked s) :=
  completes_takeCommand (Worked.refl s) (fun u _ h => h.trans (Worked.modPort u n _)) fun _ => hb

theorem fixedCommand_worked {len : Nat} {payload : List Byte} {block : State × Answer} (hb : Worked s block.1) :
    Completes (takeCommand n s (fixedLength len payload s block)) (Worked s) :=
  command_worked (fixedLength_keeps (Worked.refl s) hb)

theorem clearOnRead_worked (n : StationId) : Worked s (clearOnRead s n) := by
  unfold clearOnRead
  split
  · exact Worked.modPort s n _
  · exact Worked.refl s

theorem claim_worked (k : SocketId) : Worked s (claim n k s).1 := by
  unfold claim
  split
  · exact Worked.modSocket s k _ fun _ => rfl
  · split <;> exact Worked.refl s

theorem leavePool_worked {q : Request} (hq : q ∈ s.pool.requests) : Worked s (leavePool s q) :=
  ⟨fun v => lanesLawful_of_eq v fun _ => rfl, fun _ w => leavePool_work w hq⟩

theorem releaseSocket_worked (k : SocketId) : Worked s (releaseSocket k s).1 := by
  unfold releaseSocket
  split
  · exact (Worked.modSocket s k Socket.giveUp fun _ => rfl).andArbitrate
  · rename_i q hq
    exact ((leavePool_worked (queuedOf_mem hq)).trans
      (Worked.modSocket (leavePool s q) k Socket.giveUp fun _ => rfl)).andArbitrate

theorem takeSupplyFault_worked (k : SocketId) : Worked s (takeSupplyFault s k) :=
  ⟨takeSupplyFault_lawful s k, fun v w => takeSupplyFault_work w v⟩

theorem powerOn_worked (k : SocketId) : Worked s (powerOn s k) := by
  unfold powerOn
  split
  · exact Worked.refl s
  · split
    · exact takeSupplyFault_worked k
    · exact (Worked.modSocket s k (Socket.power s.now) fun _ => rfl).andArbitrate

theorem powerOff_worked (k : SocketId) : Worked s (powerOff s k) := by
  unfold powerOff
  split
  · exact Worked.refl s
  · exact (Worked.modSocket s k (Socket.unpower .off) fun _ => rfl).andArbitrate

theorem replaceMask_worked (m : MaskId) (contents : Option Mask) : Worked s (replaceMask s m contents).1 :=
  Worked.ofSame (SameWork.modMask s m _ fun _ => rfl) fun _ => rfl

theorem writeMask_worked (m : MaskId) (b : List Byte) : Worked s (writeMask m b s).1 := by
  unfold writeMask
  split
  · exact Worked.refl s
  · split
    · exact Worked.refl s
    · exact replaceMask_worked m _

theorem plannerPass_worked : Worked s (plannerPass s) := Worked.ofSame (plannerPass_same s) (plannerPass_lane s)

theorem acceptTuning_worked (p : PairId) (f : Nat) : Worked s (acceptTuning s p f) :=
  Worked.ofSame (acceptTuning_same s p f) (acceptTuning_lane s p f)

theorem tunePair_worked (p : PairId) (f : Nat) : Worked s (tunePair s p f).1 := by
  have htune : Worked s (acceptTuning (s.setRetune p none) p f) :=
    (Worked.aside rfl rfl rfl rfl rfl : Worked s (s.setRetune p none)).trans (acceptTuning_worked p f)
  unfold tunePair
  split_ifs
  · exact Worked.refl s
  · exact Worked.refl s
  · unfold stationTune
    dsimp only
    split
    · exact htune.trans plannerPass_worked
    · exact htune

theorem submitRefusal_idle {k : SocketId} {loadGen : Nat} (h : submitRefusal s n k loadGen = none) :
    (s.socket k).engagement = .idle := by
  unfold submitRefusal at h
  split_ifs at h with _ _ _ hidle
  exact not_not.mp hidle

theorem submit_worked (k : SocketId) (kind : Kind) (loadGen number : Nat) :
    Worked s (submit s n k kind loadGen number).1 := by
  unfold submit
  split
  · exact Worked.refl s
  · exact Worked.refl s
  · rename_i m d hrefusal _
    split_ifs
    · exact Worked.refl s
    · exact Worked.refl s
    · refine ⟨fun v => ?_, fun v w => acceptRequest_work w v (submitRefusal_idle hrefusal)⟩
      have hjoin : (joinPool s (requestFor s n k kind m d)).lanesLawful := lanesLawful_of_eq v fun _ => rfl
      simp only [acceptRequest]
      split
      · exact arbitrate_lawful _ (plannerPass_worked.lanes hjoin)
      · exact arbitrate_lawful _ hjoin

theorem afterCountersRead_worked (first count : Nat) : Worked s (afterCountersRead s first count) := by
  unfold afterCountersRead
  split
  · exact Worked.modCounters s _
  · exact Worked.refl s

/-! ## Station reset -/

/-- The station's requests are in the pool, each under its own name. -/
theorem leaveAll_worked (n : StationId) : Worked s (leaveAll s (s.pool.ofStation n)) := by
  have hsub : (s.pool.ofStation n).Sublist s.pool.requests := List.filter_sublist
  refine ⟨leaveAll_lawful s _, fun _ w => leaveAll_work (s.pool.ofStation n) s w ?_ fun q hq => hsub.subset hq⟩
  have hnames := w.names
  unfold State.liveWith at hnames
  rw [List.map_append, List.nodup_append] at hnames
  obtain ⟨hpool, -⟩ := hnames
  exact (hsub.map Request.ref).nodup hpool

theorem abortAll_worked (test : Option RunContext → Bool) (cause : AbortCause) :
    Worked s (allLanes.foldl (abortWhere test cause) s) :=
  ⟨fun v => foldl_lawful _ (abortWhere_lawful _ _) _ _ v, fun v w => (abortAll_work w v).1⟩

theorem Lane.dropCopies_lawful (n : StationId) (r : Ring) {l : Lane} (h : l.lawful) : (l.dropCopies n r).lawful := by
  obtain ⟨hidle, hslot, hhold, hpending, hconnected⟩ := h
  have hnone : ∀ o : Option RunContext, o.map (dropCopy n r) = none ↔ o = none := fun o => by simp
  refine ⟨?_, fun h => (hnone _).mpr (hslot ((hnone _).mp h)), hhold, hpending, ?_⟩
  · exact hidle.trans (hnone _).symm
  · show l.connected = (l.active.map (dropCopy n r)).map _
    rw [hconnected, Option.map_map]
    refine congrArg (fun f => l.active.map f) (funext fun c => ?_)
    exact congrArg (fun x : Claim => x.1.socket) (dropCopy_claim n r c).symm

theorem emptyRing_worked (n : StationId) : Worked s (emptyRing s n) :=
  Worked.ofLanes (emptyRing_same s n) fun v l => by
    have hl := Lane.dropCopies_lawful n (s.ring n) (v l)
    simpa only [emptyRing, State.lane, Fin.getElem_fin, Vector.getElem_ofFn] using hl

theorem setSockets_worked (v : Vector Socket 16) (h : ∀ k : SocketId, v[k].tags = (s.socket k).tags) :
    Worked s { s with sockets := v } := Worked.ofSame (setSockets_same s v h) fun _ => rfl

theorem releaseOwned_worked (n : StationId) : Worked s (releaseOwned s n) :=
  setSockets_worked _ fun k => by
    simp only [Fin.getElem_fin, Vector.getElem_ofFn]
    split <;> rfl

theorem unpowerAll_worked : Worked s (unpowerAll s) :=
  setSockets_worked _ fun k => by
    simp only [Fin.getElem_fin, Vector.getElem_ofFn]
    split <;> rfl

/-! ## Events -/

theorem noticeSocket_worked (o : Option StationId) : Worked s (s.noticeSocket o) :=
  Worked.ofSame (noticeSocket_same s o) (noticeSocket_lane s o)

theorem dropOrAbort_worked (k : SocketId) (cause : AbortCause) : Worked s (dropOrAbort s k cause) :=
  ⟨dropOrAbort_lawful s k cause, fun v w => dropOrAbort_work w v⟩

theorem becomeQuiet_worked : Worked s (becomeQuiet s) := ⟨becomeQuiet_lawful s, fun v w => becomeQuiet_work w v⟩

theorem motionAll_worked : Worked s (allLanes.foldl motionAt s) :=
  ⟨foldl_lawful _ motionAt_lawful allLanes s,
   fun v w => foldl_work _ (fun _ _ w v => motionAt_work w v) motionAt_lawful allLanes s w v⟩

theorem linkGrant_worked : Worked s (linkGrant s) := Worked.ofSame (linkGrant_same s) (linkGrant_lane s)

theorem linkDone_worked : Worked s (linkDone s) := Worked.aside rfl rfl rfl rfl rfl

theorem takeReadback_worked (p : PairId) (a : SynthAddr) (words : List Word16) : Worked s (takeReadback s p a words) :=
  ⟨takeReadback_lawful s p a words, fun v w => takeReadback_work w v⟩

theorem failAttempt_worked (p : PairId) (why : PairFailure) : Worked s (failAttempt s p why) :=
  ⟨failAttempt_lawful s p why, fun v w => failAttempt_work w v⟩

theorem enterReady_worked (p : PairId) : Worked s (enterReady s p) :=
  ⟨enterReady_lawful s p, fun v w => enterReady_work w v⟩

theorem loseLock_worked (p : PairId) : Worked s (loseLock s p) := Worked.ofLanes (loseLock_same s p) (loseLock_lawful s p)

theorem gainLock_worked (p : PairId) : Worked s (gainLock s p) := Worked.ofLanes (gainLock_same s p) (gainLock_lawful s p)

theorem endActive_worked (l : LaneId) (e : Ending) (cause : Option AbortCause) : Worked s (endActive s l e cause) :=
  ⟨endActive_lawful s l e cause, fun v w => endActive_work w fun j _ => v j⟩

theorem comeToStart_worked (l : LaneId) {start : PendingStart} (h : start ≠ .none) : Worked s (comeToStart s l start) :=
  Worked.ofLanes (comeToStart_same s l start) (comeToStart_keeps s l start h)

/-- A lane whose run takes another run's place has the run's request. -/
theorem completeCounted_lawful (l : LaneId) (v : Vector CrossSpectrum 8) {c : RunContext}
    (hc : (s.lane l).active = some c) (h : s.lanesLawful) : (completeCounted s l v c).lanesLawful := by
  have hl := rerun_lawful (s := s) (l := l) h hc (congrArg Prod.fst (countSegment_claim s v c)) Lane.etu fun _ => none
  unfold completeCounted
  dsimp only
  split
  · exact endActive_lawful _ _ _ _ hl
  · unfold afterCount
    split
    · exact arbitrate_lawful _ (suspend_lawful _ _ _ _ _ hl)
    · exact arbitrate_lawful _ (comeToStart_keeps _ _ _ (by simp) hl)

theorem completeCounted_worked (l : LaneId) (v : Vector CrossSpectrum 8) {c : RunContext}
    (hc : (s.lane l).active = some c) : Worked s (completeCounted s l v c) :=
  ⟨completeCounted_lawful l v hc, fun h w => completeCounted_work w h hc⟩

theorem acceptEdge_worked (l : LaneId) (level : Bool) (x : Stamp) : Worked s (acceptEdge s l level x) :=
  ⟨acceptEdge_lawful s l level x, fun v w => acceptEdge_work w v⟩

theorem inputTransition_worked (l : LaneId) (level : Bool) (x : Stamp) : Worked s (inputTransition s l level x) :=
  ⟨inputTransition_lawful s l level x, fun v w => inputTransition_work w v⟩

end

/-! ## Every command and event -/

/-- A command or event other than a device reset keeps the law of lanes, and with it the law of the work. -/
theorem exec_worked (c : Instr) (s : State) (h1 : c ≠ .deviceReset) (h2 : c ≠ .deviceResetEnd) :
    Completes (exec c s) (Worked s) := by
  cases c with
  | getStatus n b => exact fixedCommand_worked (clearOnRead_worked n)
  | ackNotices n b =>
    refine fixedCommand_worked ?_
    split
    · exact Worked.refl s
    · exact Worked.modPort s n _
  | setPortMode n b =>
    refine fixedCommand_worked ?_
    split
    · exact Worked.refl s
    · exact Worked.modPort s n _
  | stationReset n b =>
    simp only [exec, execStationReset]
    split
    · refine completes_next ?_
      split
      · exact Worked.modPort s n _
      · exact Worked.refl s
    · exact command_worked (Worked.refl s)
  | claimSocket n b =>
    refine fixedCommand_worked ?_
    split
    · exact Worked.refl s
    · exact claim_worked _
  | releaseSocket n b =>
    refine fixedCommand_worked (ownedSocket_keeps (Worked.refl s) fun k _ => ?_)
    split
    · exact Worked.refl s
    · exact releaseSocket_worked k
  | powerSocketOn n b =>
    refine fixedCommand_worked ?_
    split
    · exact Worked.refl s
    · refine ownedSocket_keeps (Worked.refl s) fun k _ => ?_
      split
      · exact Worked.refl s
      · exact powerOn_worked k
  | powerSocketOff n b =>
    refine fixedCommand_worked ?_
    split
    · exact Worked.refl s
    · refine ownedSocket_keeps (Worked.refl s) fun k _ => ?_
      split
      · exact Worked.refl s
      · exact powerOff_worked k
  | setEfc n b =>
    refine fixedCommand_worked ?_
    split
    · exact Worked.refl s
    · refine ownedSocket_keeps (Worked.refl s) fun k _ => ?_
      split
      · exact Worked.refl s
      · exact Worked.modSocket s k _ fun _ => rfl
  | querySocket n b =>
    refine fixedCommand_worked ?_
    split
    · exact Worked.refl s
    · dsimp only
      split
      · exact Worked.modSocket s _ _ fun _ => rfl
      · exact Worked.refl s
  | setQuietTime n b => exact fixedCommand_worked (Worked.aside rfl rfl rfl rfl rfl)
  | writeMask n b =>
    refine command_worked ?_
    split
    · exact Worked.refl s
    · split
      · exact Worked.refl s
      · exact writeMask_worked _ b
  | eraseMask n b =>
    refine fixedCommand_worked ?_
    split
    · exact Worked.refl s
    · split_ifs
      · exact Worked.refl s
      · exact Worked.refl s
      · exact replaceMask_worked _ _
  | readMask n b =>
    refine fixedCommand_worked ?_
    split <;> exact Worked.refl s
  | tunePair n b =>
    refine fixedCommand_worked ?_
    split
    · exact Worked.refl s
    · exact tunePair_worked _ _
  | queryPair n b =>
    refine fixedCommand_worked ?_
    split <;> exact Worked.refl s
  | submit n b =>
    refine fixedCommand_worked ?_
    split
    · exact submit_worked _ _ _ _
    · exact Worked.refl s
  | cancel n b =>
    refine fixedCommand_worked ?_
    split
    · exact Worked.refl s
    · exact ⟨cancelAt_lawful s _, fun v w => cancelAt_work w v ‹_›⟩
  | queryRequest n b =>
    refine fixedCommand_worked ?_
    split
    · exact Worked.refl s
    · split <;> exact Worked.refl s
  | queryLane n b =>
    refine fixedCommand_worked ?_
    split <;> exact Worked.refl s
  | readRecord n b =>
    refine fixedCommand_worked ?_
    split
    · exact Worked.refl s
    · exact (Worked.aside rfl rfl rfl rfl rfl : Worked s (s.modRing n Ring.dropHead)).andArbitrate
  | readCounters n b =>
    refine fixedCommand_worked ?_
    split
    · exact Worked.refl s
    · exact afterCountersRead_worked _ _
  | counterControl n b =>
    refine fixedCommand_worked ?_
    split
    · exact Worked.refl s
    · exact Worked.aside rfl rfl rfl rfl rfl
  | unknownCommand n code b =>
    refine command_worked ?_
    split <;> exact Worked.refl s
  | frameLengthError n len =>
    simp only [exec, execFrameLengthError]
    split
    · exact command_worked (Worked.refl s)
    · exact completes_next (Worked.refl s)
  | csnFall n =>
    simp only [exec, execCsnFall]
    refine completes_next ?_
    split
    · exact Worked.aside rfl rfl rfl rfl rfl
    · exact Worked.modLines s _
  | csnRise n => exact completes_next (Worked.aside rfl rfl rfl rfl rfl)
  | srstnAssertion x =>
    simp only [exec, execSrstnAssertion]
    refine completes_next ?_
    split
    · exact Worked.modLines s _
    · split
      · exact Worked.aside rfl rfl rfl rfl rfl
      · exact Worked.refl s
      · exact Worked.aside rfl rfl rfl rfl rfl
      · exact Worked.refl s
      · exact Worked.aside rfl rfl rfl rfl rfl
  | resetStepPool n =>
    refine completes_resetStep (Worked.refl s) ?_
    exact (leaveAll_worked n).andArbitrate.trans (Worked.modPort _ n _)
  | resetStepLanes n =>
    refine completes_resetStep (Worked.refl s) ?_
    exact (abortAll_worked _ _).trans (Worked.modPort _ n _)
  | resetStepRing n =>
    refine completes_resetStep (Worked.refl s) ?_
    exact (emptyRing_worked n).andArbitrate.trans (Worked.modPort _ n _)
  | resetStepSockets n =>
    refine completes_resetStep (Worked.refl s) ?_
    exact (releaseOwned_worked n).andArbitrate.trans (Worked.modPort _ n _)
  | resetStepPort n => exact completes_resetStep (Worked.refl s) (Worked.aside rfl rfl rfl rfl rfl)
  | resetStepRequestIds n =>
    refine completes_resetStep (Worked.refl s) ?_
    dsimp only
    split <;> exact Worked.aside rfl rfl rfl rfl rfl
  | srstnRelease n =>
    simp only [exec, execSrstnRelease]
    refine completes_next ?_
    split <;> exact Worked.aside rfl rfl rfl rfl rfl
  | deviceReset => exact absurd rfl h1
  | deviceResetEnd => exact absurd rfl h2
  | presentChange k high =>
    simp only [exec, execPresentChange]
    refine completes_next ?_
    split
    · exact Worked.modLines s _
    · exact (Worked.modLines s _).trans (Worked.modSocket _ k _ fun _ => rfl)
  | riseAccepted k =>
    simp only [exec, execRiseAccepted]
    refine completes_next ?_
    split
    · exact Worked.refl s
    · split
      · exact Worked.refl s
      · exact ((Worked.reach s _).trans (Worked.modSocket _ k Socket.arrive fun _ => rfl)).trans (noticeSocket_worked _)
  | fallAccepted k =>
    simp only [exec, execFallAccepted]
    refine completes_next ?_
    split
    · exact Worked.refl s
    · exact (((Worked.reach s _).trans (Worked.modSocket _ k Socket.depart fun _ => rfl)).trans
        (noticeSocket_worked _)).trans (dropOrAbort_worked k _)
  | supplyFault k high =>
    simp only [exec, execSupplyFault]
    refine completes_next ?_
    split
    · exact (Worked.modLines s _).trans (takeSupplyFault_worked k)
    · exact Worked.modLines s _
  | poweredForIncrease k =>
    simp only [exec, execPoweredForIncrease]
    refine completes_next ?_
    split
    · have hsocket : Worked (s.reach (s.socket k).secondEnd)
          ((s.reach (s.socket k).secondEnd).modSocket k Socket.secondPassed) := Worked.modSocket _ k _ fun _ => rfl
      exact ((Worked.reach s _).trans hsocket).andArbitrate
    · exact Worked.refl s
  | motionAssertion =>
    simp only [exec, execMotionAssertion]
    refine completes_next ?_
    split
    · exact Worked.modLines s _
    · exact ((Worked.modLines s _).trans (Worked.modMonitor _ _)).trans motionAll_worked
  | motionFall =>
    simp only [exec, execMotionFall]
    refine completes_next ?_
    split
    · exact Worked.modLines s _
    · split
      · exact ((Worked.modLines s _).trans (Worked.modMonitor _ _)).trans becomeQuiet_worked
      · exact Worked.aside rfl rfl rfl rfl rfl
  | quietTimerExpiry =>
    simp only [exec, execQuietTimerExpiry]
    refine completes_next ?_
    split
    · exact Worked.refl s
    · exact (Worked.reach s _).trans becomeQuiet_worked
  | cutoffAssertion =>
    simp only [exec, execCutoffAssertion]
    refine completes_next ?_
    split
    · exact Worked.modLines s _
    · have hoff := ((Worked.modLines s fun x => { x with cutoff := true }).trans
        (Worked.modMonitor _ fun m => { m with cutoff := true })).trans unpowerAll_worked
      exact (hoff.trans (abortAll_worked _ _)).andArbitrate.trans (Worked.latchAll _ _)
  | cutoffDeassertion =>
    simp only [exec, execCutoffDeassertion]
    refine completes_next ?_
    split <;> exact Worked.aside rfl rfl rfl rfl rfl
  | rmlWriteComplete =>
    simp only [exec, execRmlWriteComplete]
    refine completes_next ?_
    split
    · exact linkDone_worked.trans linkGrant_worked
    · exact Worked.refl s
  | rmlReadIncrementComplete words =>
    simp only [exec, execRmlReadIncrementComplete]
    refine completes_next ?_
    split
    · exact (linkDone_worked.trans (takeReadback_worked _ _ _)).trans linkGrant_worked
    · exact Worked.refl s
  | lockRise a =>
    simp only [exec, execLockRise]
    refine completes_next ?_
    split
    · exact Worked.modLines s _
    · split
      · exact (Worked.modLines s _).trans (gainLock_worked _)
      · exact Worked.modLines s _
  | lockFall a =>
    simp only [exec, execLockFall]
    refine completes_next ?_
    split
    · exact Worked.modLines s _
    · exact (Worked.modLines s _).trans (loseLock_worked _)
  | lockTimerExpiry p =>
    simp only [exec, execLockTimerExpiry]
    refine completes_next ?_
    split
    · exact Worked.refl s
    · exact (Worked.reach s _).trans (failAttempt_worked p _)
  | settleTimerExpiry p =>
    simp only [exec, execSettleTimerExpiry]
    refine completes_next ?_
    split
    · exact Worked.refl s
    · split
      · exact (Worked.reach s _).trans (enterReady_worked p)
      · exact (Worked.reach s _).trans (Worked.modPair _ p _ rfl)
  | calibrationCompletion p measured =>
    simp only [exec, execCalibrationCompletion]
    refine completes_next ?_
    split
    · exact (Worked.modPair s p _ rfl).trans (enterReady_worked p)
    · exact Worked.refl s
  | relockTimerExpiry p =>
    simp only [exec, execRelockTimerExpiry]
    refine completes_next ?_
    split
    · exact Worked.refl s
    · exact (Worked.reach s _).trans (failAttempt_worked p _)
  | countedSegmentCompletion l segment =>
    simp only [exec, execCountedSegmentCompletion]
    refine completes_next ?_
    split
    · exact Worked.refl s
    · exact (Worked.reach s _).trans (completeCounted_worked l _ (timed_active ‹_›))
  | settleCompletion l =>
    simp only [exec, execSettleCompletion]
    refine completes_next ?_
    split
    · exact Worked.refl s
    · exact ((Worked.reach s _).trans (comeToStart_worked l (by simp))).andArbitrate
  | efcSettleExpiry l =>
    simp only [exec, execEfcSettleExpiry]
    refine completes_next ?_
    split
    · exact Worked.refl s
    · exact ((Worked.reach s _).trans (Worked.modLaneTiming _ l Lane.etu fun _ => none)).trans
        (Worked.modLaneTiming _ l _ Lane.interval)
  | runTimerExpiry l =>
    simp only [exec, execRunTimerExpiry]
    refine completes_next ?_
    split
    · exact Worked.refl s
    · exact (Worked.reach s _).trans (endActive_worked l _ _)
  | etuInputTransition k high stamp =>
    simp only [exec, execEtuInputTransition]
    refine completes_next ?_
    split
    · exact Worked.modLines s _
    · split
      · exact Worked.aside rfl rfl rfl rfl rfl
      · refine Worked.trans (t := (s.modLines _).reachStamp stamp) ?_ (inputTransition_worked _ _ _)
        exact Worked.aside rfl rfl rfl rfl rfl
  | filterWidthExpiry l =>
    simp only [exec, execFilterWidthExpiry]
    refine completes_next ?_
    split
    · exact Worked.refl s
    · split
      · exact (Worked.reach s _).trans (acceptEdge_worked l _ _)
      · exact Worked.refl s
  | edgeTimeout l =>
    simp only [exec, execEdgeTimeout]
    refine completes_next ?_
    split
    · exact Worked.refl s
    · exact ((Worked.reach s _).trans (Worked.modLaneTiming _ l (fun x => x.etu.stop) Lane.interval)).trans
        (endActive_worked l _ _)
  | answerShiftedOut n =>
    simp only [exec, execAnswerShiftedOut]
    refine completes_next ?_
    split
    · exact Worked.modPort s n _
    · exact Worked.refl s

/-- After a device reset there is no work and every lane is idle. -/
theorem ofReset_worked (s : State) (x : Lines) (q : List Instr) : Worked s (State.ofReset x q) :=
  ⟨fun _ => ofReset_lanesLawful x q, fun _ _ => ofReset_work x q⟩

theorem exec_next_worked {c : Instr} {s t : State} (h : exec c s = .next t) : Worked s t := by
  by_cases h1 : c = .deviceReset
  · subst h1
    refine exec_deviceReset_keeps h ?_
    exact (ofReset_worked s s.lines s.pending).trans (Worked.aside rfl rfl rfl rfl rfl)
  · by_cases h2 : c = .deviceResetEnd
    · subst h2
      exact exec_deviceResetEnd_keeps h (Worked.refl s) (ofReset_worked s _ _)
    · exact (exec_worked c s h1 h2).next h

theorem step_worked {s t : State} (h : step s = .next t) : Worked s t := by
  rcases step_cases h with rfl | ⟨c, rest, -, h⟩
  · exact Worked.aside rfl rfl rfl rfl rfl
  · exact (Worked.aside rfl rfl rfl rfl rfl : Worked s { s with pending := rest }).trans (exec_next_worked h)

/-! ## The obligations -/

/-- Settles O57, by `step_keepsLaws` for the pairs and `step_worked` for lanes and work. -/
theorem stepKeepsPairAndLaneLaws : Obligations.StepKeepsPairAndLaneLaws := by
  unfold Obligations.StepKeepsPairAndLaneLaws
  intro s t h
  have hworked := step_worked h
  obtain ⟨-, -, -, -, -, hpairs⟩ := step_keepsLaws h
  exact ⟨hpairs, hworked.lanes, fun v w => lawOfWork (hworked.work v (workOfLaw w)) (hworked.lanes v)⟩

/-- Settles O58, by the laws of every block's reset value. -/
theorem resetStateHasEveryLaw : Obligations.ResetStateHasEveryLaw :=
  ⟨ofReset_ringsFit _ _, ofReset_masksValid _ _, ofReset_poolFits _ _, ofReset_lineLaw _ _, ofReset_supplyLaw _ _,
   ofReset_pairsLawful _ _, ofReset_lanesLawful _ _, lawOfWork (ofReset_work _ _) (ofReset_lanesLawful _ _)⟩

end Sys2Proof.Machine
end

section
/-!
PROOFS. The station ports and station reset (10_station_ports.md, R173 to R186): O3, O4, O5, O7, O8, O10 to O15, O60.
-/
namespace Sys2Proof.Machine

/-! ## Two changes of one entry -/

theorem updateAt_updateAt {n : Nat} {α : Type} (v : Vector α n) (i : Fin n) (f g : α → α) :
    updateAt (updateAt v i f) i g = updateAt v i fun x => g (f x) := by
  simp [updateAt]

theorem modPort_modPort (s : State) (n : StationId) (f g : Port → Port) :
    (s.modPort n f).modPort n g = s.modPort n fun p => g (f p) :=
  congrArg (fun ports => { s with ports := ports }) (updateAt_updateAt s.ports n f g)

theorem modLane_modLane (s : State) (l : LaneId) (f g : Lane → Lane) :
    (s.modLane l f).modLane l g = s.modLane l fun x => g (f x) :=
  congrArg (fun lanes => { s with lanes := lanes }) (updateAt_updateAt s.lanes l f g)

/-! ## Bytes and the numbers they carry -/

theorem byte_eq {b : Byte} {i : Nat} (h : b.toNat = i) : BitVec.ofNat 8 i = b := by
  rw [← h, BitVec.ofNat_toNat, BitVec.setWidth_eq]

theorem bytes8_eq {b : Byte} {i : Nat} (h : b.toNat = i) : bytes8 i = [b] := by
  rw [bytes8, byte_eq h]

theorem bytes8_toNat (b : Byte) : bytes8 b.toNat = [b] := bytes8_eq rfl

/-- A bit of a number read from a byte is the byte's bit. -/
theorem bitOf_toNat {w : Nat} (b : BitVec w) (i : Nat) : bitOf b.toNat i = b.getLsbD i :=
  (Nat.testBit_eq_decide_div_mod_eq).symm

/-! ## Taking a command -/

section
variable {n : StationId} {s : State}

/-- A command of a fixed length, with that length, leaves what its block leaves and gives the block's answer. -/
theorem fixedCommand_answers (h : s.takes n = true) {len : Nat} {payload : List Byte} (hl : payload.length = len)
    {block : State × Answer} {t : State} {a : Answer} (hb : block = (t, a)) :
    takeCommand n s (fixedLength len payload s block) = .next (t.answerAt n a) := by
  rw [takeCommand_taken h, fixedLength_ok hl, hb]

/-- A command of a fixed length, with another length, is answered FRAME. -/
theorem fixedCommand_frame (h : s.takes n = true) {len : Nat} {payload : List Byte} (hl : payload.length ≠ len)
    (block : State × Answer) :
    takeCommand n s (fixedLength len payload s block) = .next (s.answerAt n ⟨.frame, []⟩) := by
  rw [takeCommand_taken h, fixedLength_frame hl]
  rfl

end

/-- A known command with another payload length is answered FRAME (R175). -/
theorem exec_wrongLength {c : Instr} {n : StationId} {len : Nat} {code : Byte} {payload : List Byte} {s : State}
    (hp : portOf c = some n) (hl : payloadLength c = some len) (hf : frameOf c = some (code, payload))
    (hne : payload.length ≠ len) (ht : s.takes n = true) : exec c s = .next (s.answerAt n ⟨.frame, []⟩) := by
  cases c <;> simp only [portOf, payloadLength, frameOf, Option.some.injEq, Prod.mk.injEq, reduceCtorEq] at hp hl hf
  case stationReset =>
    obtain ⟨-, rfl⟩ := hf
    subst hp hl
    simp only [exec, execStationReset, if_neg hne, takeCommand_taken ht, refuse]
  all_goals
    obtain ⟨-, rfl⟩ := hf
    subst hp hl
    exact fixedCommand_frame ht hne _

/-- A command at a port that takes none changes nothing (R174, R183, R186). -/
theorem exec_ignored {c : Instr} {n : StationId} {s : State} (hp : portOf c = some n) (ht : s.takes n = false) :
    exec c s = .next s := by
  cases c <;> simp only [portOf, Option.some.injEq, reduceCtorEq] at hp
  case stationReset =>
    subst hp
    simp only [exec, execStationReset, ht, takeCommand_ignored, Bool.false_eq_true, if_false, ite_self]
  all_goals
    subst hp
    exact takeCommand_ignored ht _

/-- Settles O3, by `takes_iff`, `exec_wrongLength` and `exec_ignored`. -/
theorem portsTurnAwayWrongLengthsAndClosedPortsTakeNothing :
    Obligations.PortsTurnAwayWrongLengthsAndClosedPortsTakeNothing := by
  unfold Obligations.PortsTurnAwayWrongLengthsAndClosedPortsTakeNothing
  refine ⟨fun n s => takes_iff s n, fun c n len code payload s => exec_wrongLength, fun n s h => ⟨fun c hp => ?_, fun len => ?_⟩⟩
  · exact exec_ignored hp h
  · simp only [exec, execFrameLengthError, takeCommand_ignored h, ite_self]

/-- Settles O4, by the strict setting and the length. -/
theorem unknownCodeFollowsStrict : Obligations.UnknownCodeFollowsStrict := by
  unfold Obligations.UnknownCodeFollowsStrict
  refine fun n s h => ⟨fun code payload => ?_, fun len hl => ?_⟩
  · simp only [exec, execUnknownCommand, takeCommand_taken h]
    split <;> rfl
  · have hmax : Config.maxPayload < len.toNat := hl
    simp only [exec, execFrameLengthError, if_pos hmax, takeCommand_taken h, refuse]

/-! ## The transaction (R174) -/

theorem miso_highImpedance_iff (s : State) (n : StationId) :
    s.miso n = .highImpedance ↔ s.inReset = true ∨ (s.port n).resetState = .held ∨ s.lines.csn[n] = true := by
  unfold State.miso
  split
  · rename_i h
    simpa [or_assoc] using h
  · rename_i h
    simp only [Bool.or_eq_true, decide_eq_true_eq, or_assoc] at h
    refine iff_of_false ?_ h
    split
    · split <;> simp
    · simp

/-- A driven MISO carries the answer once it is formed in ANSWERING, and the fill byte otherwise. -/
theorem miso_driven {s : State} {n : StationId} (hr : s.inReset = false) (hh : (s.port n).resetState ≠ .held)
    (hc : s.lines.csn[n] = false) :
    s.miso n = if (s.port n).transaction = .answering then
      match (s.port n).answer with
      | none => .fill
      | some a => .answer a.bytes
    else .fill := by
  unfold State.miso
  exact if_neg (by simp [hr, hh, hc])

/-- Settles O5: the codes, the three events of the transaction, and MISO by its two cases. -/
theorem transactionEventsMoveThePort : Obligations.TransactionEventsMoveThePort := by
  unfold Obligations.TransactionEventsMoveThePort
  refine ⟨fun x => by cases x <;> rfl, fun n s => ?_⟩
  refine ⟨fun hr hp ht => ?_, fun h => ?_, rfl, fun a ht ha => ?_, miso_highImpedance_iff s n, fun hr hh hc => ⟨?_, ?_⟩⟩
  · simp only [exec, execCsnFall, hr, hp, ht, select_eq, decide_true, Bool.not_false, Bool.and_self, if_true]
  · have hclosed : ¬ (!s.inReset && decide ((s.port n).resetState = .running) &&
        decide ((s.port n).transaction = .idle)) = true := by
      simp only [Bool.and_eq_true, Bool.not_eq_true', decide_eq_true_eq]
      rintro ⟨⟨hr, hp⟩, ht⟩
      simp [hr, hp, ht] at h
    simp only [exec, execCsnFall, if_neg hclosed, select_eq]
  · simp only [exec, execAnswerShiftedOut, ht, ha, Option.isSome_some, and_self, if_true]
  · intro a ht ha
    rw [miso_driven hr hh hc, if_pos ht, ha]
    rfl
  · intro h
    rw [miso_driven hr hh hc]
    split
    · rename_i ht
      have ha : (s.port n).answer = none := h.resolve_left (not_not.mpr ht)
      rw [ha]
    · rfl

/-! ## Notices and port mode (R181, R182) -/

/-- Settles O7, by the bits of the byte. -/
theorem ackNoticesClearsTheNamed : Obligations.AckNoticesClearsTheNamed := by
  unfold Obligations.AckNoticesClearsTheNamed
  refine fun n b s h => ⟨fun hb => ?_, fun hb => ?_⟩
  · exact fixedCommand_answers h rfl (if_pos hb)
  · have hlow : ¬ 63 < field8 [b] 0 := Nat.not_lt.mpr hb
    have hclear : ∀ l : Latched, l.without (noticesOf (field8 [b] 0)) =
        ⟨l.socket && !b.getLsbD 1, l.pair && !b.getLsbD 2, l.cutoff && !b.getLsbD 3, l.counter && !b.getLsbD 4,
         l.reset && !b.getLsbD 5⟩ := fun l => by
      show Latched.without l (noticesOf b.toNat) = _
      simp only [Latched.without, noticesOf, bitOf_toNat]
    refine fixedCommand_answers h rfl ((if_neg hlow).trans ?_)
    simp only [State.latch, hclear]
    rfl

/-- Settles O8, by the bits of the two bytes. -/
theorem setPortModeReplacesAllThree : Obligations.SetPortModeReplacesAllThree := by
  unfold Obligations.SetPortModeReplacesAllThree
  refine fun n m e s h => ⟨fun hb => ?_, fun hm he => ?_⟩
  · exact fixedCommand_answers h rfl (if_pos hb)
  · have hlow : ¬ (3 < field8 [m, e] 0 ∨ 63 < field8 [m, e] 1) := by
      rintro (hx | hx)
      · exact absurd hx (Nat.not_lt.mpr hm)
      · exact absurd hx (Nat.not_lt.mpr he)
    have hmode : field8 [m, e] 0 = m.toNat := rfl
    have henable : field8 [m, e] 1 = e.toNat := rfl
    refine fixedCommand_answers h rfl ((if_neg hlow).trans ?_)
    simp only [hmode, henable, noticesOf, bitOf_toNat]
    rfl

/-! ## Station reset begins and ends (R183, R185) -/

/-- Settles O10, by the cases of the input's level, the reset state and the low being timed. -/
theorem stationResetBeginsAndHeldEnds : Obligations.StationResetBeginsAndHeldEnds := by
  unfold Obligations.StationResetBeginsAndHeldEnds
  refine ⟨rfl, fun n s => ?_⟩
  refine ⟨fun h => ?taken, fun held hr => ?inReset, fun hr hl => ⟨?falls, fun hp => ?began, fun hp => ?beganNone⟩,
    fun hr hl => ⟨?low, fun hn => ?noLow, fun e he => ?lastedRunning, fun e he => ?lasted⟩, fun hr hp => ?held,
    fun h => ?released⟩
  case taken =>
    simp only [exec, execStationReset, List.length_nil, if_true, h, Port.beginReset]
  case inReset => simp only [exec, execSrstnAssertion, hr, if_true, setSrstn_eq]
  case falls =>
    simp only [exec, execSrstnAssertion, hr, hl, setSrstn_eq, Bool.false_eq_true, if_false]
    exact congrArg Host.Outcome.next (modPort_congr rfl)
  case began =>
    simp only [exec, execSrstnAssertion, hr, hl, setSrstn_eq, Bool.false_eq_true, if_false, State.newLow, hp,
      decide_true]
    rfl
  case beganNone =>
    simp only [exec, execSrstnAssertion, hr, hl, setSrstn_eq, Bool.false_eq_true, if_false, State.newLow, hp,
      decide_false]
    rfl
  case low => simp only [exec, execSrstnAssertion, hr, hl, Bool.false_eq_true, if_false]
  case noLow => simp only [exec, execSrstnAssertion, hr, hl, hn, Bool.false_eq_true, if_false]
  case lastedRunning =>
    refine Eq.trans (b := .next ((s.reach e).modPort n (Port.lowLasted ⟨e, true⟩))) ?_ rfl
    simp only [exec, execSrstnAssertion, hr, hl, he, Bool.false_eq_true, if_false]
  case lasted =>
    refine Eq.trans (b := .next ((s.reach e).modPort n (Port.lowLasted ⟨e, false⟩))) ?_ rfl
    simp only [exec, execSrstnAssertion, hr, hl, he, Bool.false_eq_true, if_false]
  case held =>
    simp only [exec, execSrstnRelease, hr, hp, decide_true, Bool.not_false, Bool.and_self, if_true, setSrstn_eq,
      modPort_modPort]
  case released =>
    have hstays : ¬ (!s.inReset && decide ((s.port n).resetState = .held)) = true := by
      simp only [Bool.and_eq_true, Bool.not_eq_true', decide_eq_true_eq, not_and]
      intro hr
      exact h.resolve_left (by simp [hr])
    simp only [exec, execSrstnRelease, if_neg hstays, setSrstn_eq]

/-! ## The steps of a station reset (R184) -/

/-- The step that is next in the order acts. -/
theorem resetStep_next {n : StationId} {x : ResetStep} {s act : State} (h : (s.port n).resetState = .resetting)
    (hx : (s.port n).progress.next = x) : resetStep n x s act = .next act := by
  simp only [resetStep, State.atStep, h, hx, decide_true, Bool.and_self, if_true]

theorem ownedBy_iff (n : StationId) (x : Option RunContext) :
    ownedBy n x = true ↔ ∃ c, x = some c ∧ c.request.station = n := by
  cases x <;> simp [ownedBy]

theorem leavePool_requests (s : State) (q : Request) :
    (leavePool s q).pool.requests = s.pool.requests.filter fun x => !decide (x.ref = q.ref) := rfl

theorem leaveAll_requests (s : State) (qs : List Request) :
    (leaveAll s qs).pool.requests = s.pool.requests.filter fun x => !decide (x.ref ∈ qs.map Request.ref) := by
  induction qs generalizing s with
  | nil => simp [leaveAll]
  | cons q qs ih =>
    have hstep : leaveAll s (q :: qs) = leaveAll (leavePool s q) qs := rfl
    rw [hstep, ih, leavePool_requests, List.filter_filter]
    refine List.filter_congr fun x _ => ?_
    simp [List.map_cons, Bool.and_comm]

/-- After step 1 the pool holds no request of the station (R93). -/
theorem leaveAll_ofStation (s : State) (n : StationId) :
    (arbitrate (leaveAll s (s.pool.ofStation n))).pool.ofStation n = [] := by
  refine List.filter_eq_nil_iff.mpr fun x hx => ?_
  have hmem := (arbitrate_cascade _).requests.subset hx
  rw [leaveAll_requests, List.mem_filter] at hmem
  obtain ⟨hpool, hout⟩ := hmem
  intro hn
  have hin : x.ref ∈ (s.pool.ofStation n).map Request.ref :=
    List.mem_map_of_mem (List.mem_filter.mpr ⟨hpool, hn⟩)
  simp [hin] at hout

/-- Settles O11, by `resetStep_next` and `leaveAll_ofStation`. -/
theorem stationResetPoolAndLaneSteps : Obligations.StationResetPoolAndLaneSteps := by
  unfold Obligations.StationResetPoolAndLaneSteps
  exact ⟨ownedBy_iff, fun n s h =>
    ⟨fun hx => ⟨resetStep_next h hx, leaveAll_ofStation s n⟩, fun hx => resetStep_next h hx⟩⟩

theorem reservedCopy_iff (r : Ring) (run : RequestRef) :
    r.reservedCopy run = true ↔ ∃ e ∈ r.entries, e.record = none ∧ e.role = .copy ∧ e.run = run := by
  simp [Ring.reservedCopy, and_assoc]

/-- Settles O12, by `reservedCopy_iff` and `resetStep_next`. -/
theorem stationResetRingAndSocketSteps : Obligations.StationResetRingAndSocketSteps := by
  unfold Obligations.StationResetRingAndSocketSteps
  refine ⟨fun n r c => ⟨fun h => ?_, fun h => ?_⟩, fun n s h => ⟨fun hx => resetStep_next h hx, fun hx => ?_⟩⟩
  · exact if_pos ((reservedCopy_iff r c.request.ref).mpr h)
  · exact if_neg fun hr => h ((reservedCopy_iff r c.request.ref).mp hr)
  · have howns : ∀ k, s.owns n k = decide ((s.socket k).owner = some n) := fun _ => rfl
    refine (resetStep_next h hx).trans ?_
    simp only [releaseOwned, howns, decide_eq_true_eq]
    rfl

/-- Settles O13, by `resetStep_next` and the level of SRSTN. -/
theorem stationResetPortAndIdSteps : Obligations.StationResetPortAndIdSteps := by
  unfold Obligations.StationResetPortAndIdSteps
  refine fun n s h => ⟨fun hx => ?_, fun hx hl => ?_, fun hx hl => ?_⟩
  · refine (resetStep_next h hx).trans ?_
    rw [State.stepDone, modPort_modPort]
    rfl
  · refine (resetStep_next h hx).trans ?_
    simp only [if_pos hl, modPort_modPort]
    rfl
  · refine (resetStep_next h hx).trans ?_
    simp only [hl, Bool.false_eq_true, if_false, modPort_modPort]
    rfl

/-! ## Device reset (R186) -/

theorem attnLow_inReset {s : State} (h : s.inReset = true) (n : StationId) : s.attnLow n = false := by
  simp [State.attnLow, h]

/-- Settles O14, by the reset values of the blocks and `miso_highImpedance_iff`. -/
theorem deviceResetAndItsEnd : Obligations.DeviceResetAndItsEnd := by
  unfold Obligations.DeviceResetAndItsEnd
  refine fun s => ⟨rfl, ⟨_, rfl, rfl, rfl, rfl, fun n => ?ports, fun l => ?lanes, rfl, fun n => ?rings, fun k => ?sockets⟩,
    rfl, fun h => ?ends, fun h => ?stays⟩
  case ports =>
    refine ⟨?_, ?_, attnLow_inReset rfl n, ?_, (miso_highImpedance_iff _ n).mpr (.inl rfl)⟩
    · simp [State.port, Port.duringReset, Port.reset]
    · simp [State.port, Port.duringReset, Port.reset]
    · simp [State.recordNotice, State.ring, State.ofReset, Ring.reset, Ring.readable]
  case lanes => simp [State.lane, State.ofReset, Lane.reset]
  case rings => simp [State.ring, State.ofReset, Ring.reset]
  case sockets => simp [State.socket, State.ofReset, Socket.reset]
  case ends => simp only [exec, execDeviceResetEnd, h, if_true]
  case stays => simp only [exec, execDeviceResetEnd, h, Bool.false_eq_true, if_false]

/-- Settles O15, block by block. -/
theorem deviceResetValues : Obligations.DeviceResetValues := by
  unfold Obligations.DeviceResetValues
  refine fun x q => ⟨rfl, rfl, ofReset_socket x q, rfl, ofReset_mask x q, rfl, fun p => ?_, ofReset_pair x q, rfl,
    ofReset_lane x q, ofReset_ring x q, rfl, ofReset_port x q⟩
  simp [State.ofReset]

/-! ## Frames (R174, R175) -/

theorem settingIsOff_true {b : List Byte} (h : settingIsOff b = true) (p : StationId) :
    commandOfFrame p 0x12 b = .powerSocketOff p b := if_pos h

theorem settingIsOff_false {b : List Byte} (h : settingIsOff b = false) (p : StationId) :
    commandOfFrame p 0x12 b = .powerSocketOn p b := if_neg (by simp [h])

/-- A code that is not in the command table names no command (R176). -/
theorem commandOfFrame_unknown {code : Byte} (h : knownCodes.contains code = false) (p : StationId) (b : List Byte) :
    commandOfFrame p code b = .unknownCommand p code b := by
  unfold commandOfFrame
  split
  all_goals try rfl
  all_goals
    rename_i hcode
    have hknown : code = BitVec.ofNat 8 code.toNat := by simp
    rw [hcode] at hknown
    rw [hknown] at h
    exact absurd h (by decide)

/-- The frame of a command that can reach the part is read as the command. -/
theorem commandOfFrame_frameOf {c : Instr} {p : StationId} {code : Byte} {b : List Byte} (hw : c.wellFormed = true)
    (hp : portOf c = some p) (hf : frameOf c = some (code, b)) : commandOfFrame p code b = c ∧ payloadFits b = true := by
  cases c <;> simp only [portOf, frameOf, Option.some.injEq, Prod.mk.injEq, reduceCtorEq] at hp hf
  case powerSocketOn =>
    obtain ⟨rfl, rfl⟩ := hf
    subst hp
    simp only [Instr.wellFormed, Bool.and_eq_true, Bool.not_eq_true'] at hw
    obtain ⟨hfits, hon⟩ := hw
    exact ⟨settingIsOff_false hon _, hfits⟩
  case powerSocketOff =>
    obtain ⟨rfl, rfl⟩ := hf
    subst hp
    simp only [Instr.wellFormed, Bool.and_eq_true] at hw
    obtain ⟨hfits, hoff⟩ := hw
    exact ⟨settingIsOff_true hoff _, hfits⟩
  case unknownCommand =>
    obtain ⟨rfl, rfl⟩ := hf
    subst hp
    simp only [Instr.wellFormed, Bool.and_eq_true, Bool.not_eq_true'] at hw
    obtain ⟨hcode, hfits⟩ := hw
    exact ⟨commandOfFrame_unknown hcode _ _, hfits⟩
  all_goals
    obtain ⟨rfl, rfl⟩ := hf
    subst hp
    exact ⟨rfl, hw⟩

/-- A complete frame within the length limit is read whole. -/
theorem commandOfBytes_frame {p : StationId} {code : Byte} {b : List Byte} (h : b.length ≤ 120) :
    commandOfBytes p (code :: BitVec.ofNat 8 b.length :: b) = some (commandOfFrame p code b) := by
  have hlen : (BitVec.ofNat 8 b.length).toNat = b.length := by
    rw [BitVec.toNat_ofNat]
    omega
  have hmax : ¬ Config.maxPayload < b.length := Nat.not_lt.mpr h
  simp only [commandOfBytes, hlen, if_neg hmax, lt_irrefl, if_false, List.take_length]

/-- Settles O60, by `commandOfFrame_frameOf` and `commandOfBytes_frame`. -/
theorem framesReadBackAsTheirCommands : Obligations.FramesReadBackAsTheirCommands := by
  unfold Obligations.FramesReadBackAsTheirCommands
  refine ⟨fun c p bytes hw hp hb => ?_, fun p code len h => if_pos h⟩
  obtain ⟨⟨code, b⟩, hf, rfl⟩ := Option.map_eq_some_iff.mp hb
  obtain ⟨hcommand, hfits⟩ := commandOfFrame_frameOf hw hp hf
  have hlen : b.length ≤ 120 := of_decide_eq_true hfits
  rw [← hcommand]
  exact commandOfBytes_frame hlen

end Sys2Proof.Machine
end

section
/-!
PROOFS. The socket table (03_sockets_and_handler_lines.md, R43 to R59): O16 to O28.
-/
namespace Sys2Proof.Machine

/-! ## The socket a byte names -/

section
variable {n : StationId} {s : State} {k : SocketId} {b : Byte}

theorem socketOf_byte (h : b.toNat = k.val) : socketOf b.toNat = some k := h ▸ socketOf_val k

variable {number : Nat} {block : SocketId → State × Answer}

theorem ownedSocket_range (h : 15 < number) : ownedSocket n number s block = (s, ⟨.range, []⟩) := by
  simp only [ownedSocket, socketOf_above h, refuse]

theorem ownedSocket_notOwner (hk : number = k.val) (ho : (s.socket k).owner ≠ some n) :
    ownedSocket n number s block = (s, ⟨.notOwner, []⟩) := by
  subst hk
  simp only [ownedSocket, socketOf_val, State.owns, ho, decide_false, Bool.false_eq_true, if_false, refuse]

theorem ownedSocket_owned (hk : number = k.val) (ho : (s.socket k).owner = some n) :
    ownedSocket n number s block = block k := by
  subst hk
  simp only [ownedSocket, socketOf_val, State.owns, ho, decide_true, if_true]

theorem hasRun_iff (x : Engagement) : x.hasRun = true ↔ x = .running ∨ x = .suspended := by
  cases x <;> simp [Engagement.hasRun]

/-! ## Ownership (R47, R48) -/

theorem claimPayload_eq (h : b.toNat = k.val) :
    claimPayload s k =
      [b, if (s.socket k).presence = .present then 1 else 0] ++ bytes16 (s.socket k).loadGen.toNat := by
  unfold claimPayload
  rw [bytes8_eq h]
  split <;> simp_all [bytes8]

/-- Settles O16, by the owner of the socket. -/
theorem claimSocketTakesAnUnownedSocket : Obligations.ClaimSocketTakesAnUnownedSocket := by
  unfold Obligations.ClaimSocketTakesAnUnownedSocket
  refine fun n b s h => ⟨fun hb => ?range, fun k hk => ⟨fun ho => ?unowned, fun ho => ?own, fun o hne ho => ?owned⟩⟩
  case range =>
    refine fixedCommand_answers h rfl ?_
    rw [show socketOf (field8 [b] 0) = none from socketOf_above hb]
    rfl
  all_goals
    refine fixedCommand_answers h rfl ?_
    rw [show socketOf (field8 [b] 0) = some k from socketOf_byte hk]
  case unowned => simp only [claim, ho, claimPayload_eq hk]
  case own => simp only [claim, ho, claimPayload_eq hk, if_true]
  case owned => simp only [claim, ho, if_neg hne, bytes8]

theorem queuedOf_of_not_queued (h : (s.socket k).engagement ≠ .queued) : s.queuedOf k = none := by
  unfold State.queuedOf
  split
  · contradiction
  · rfl

theorem queuedOf_of_queued {r : RequestRef} (he : (s.socket k).engagement = .queued) (hr : (s.socket k).request = some r) :
    s.queuedOf k = s.queued r := by
  simp only [State.queuedOf, he, hr]

/-- Settles O17, by the engagement of the socket. -/
theorem releaseSocketGivesUp : Obligations.ReleaseSocketGivesUp := by
  unfold Obligations.ReleaseSocketGivesUp
  refine fun n b s h => ⟨fun hb => ?range, fun k hk => ⟨fun ho => ?notOwner, fun ho =>
    ⟨fun he => ?busy, fun he => ?idle, fun r q he hr hq => ?queued⟩⟩⟩
  case range => exact fixedCommand_answers h rfl (ownedSocket_range hb)
  case notOwner => exact fixedCommand_answers h rfl (ownedSocket_notOwner hk ho)
  case busy =>
    refine fixedCommand_answers h rfl ((ownedSocket_owned hk ho).trans ?_)
    exact if_pos ((hasRun_iff _).mpr he)
  case idle =>
    refine fixedCommand_answers h rfl ((ownedSocket_owned hk ho).trans ?_)
    have hqueued : s.queuedOf k = none := queuedOf_of_not_queued (by simp [he])
    simp only [he, Engagement.hasRun, Bool.false_eq_true, if_false, releaseSocket, hqueued, bytes8_eq hk]
    rfl
  case queued =>
    refine fixedCommand_answers h rfl ((ownedSocket_owned hk ho).trans ?_)
    have hqueued : s.queuedOf k = some q := (queuedOf_of_queued he hr).trans hq
    simp only [he, Engagement.hasRun, Bool.false_eq_true, if_false, releaseSocket, hqueued, bytes8_eq hk]
    rfl

/-! ## Supply (R50 to R53) -/

/-- The arbiter leaves a socket's supply as it is. -/
theorem Cascade.supply {t : State} (h : Cascade s t) (j : SocketId) : (t.socket j).supply = (s.socket j).supply := by
  have hfixed := h.socket j
  simp only [Socket.fixed, Prod.mk.injEq] at hfixed
  obtain ⟨-, -, -, -, -, -, hsupply, -⟩ := hfixed
  exact hsupply

theorem powerRefusal_absent (hp : (s.socket k).presence = .absent) : s.powerRefusal k = some .absent := if_pos hp

theorem powerRefusal_present (hp : (s.socket k).presence = .present) :
    s.powerRefusal k =
      if s.monitor.cutoff then some .cutoff else if (s.socket k).supply = .fault then some .busy else none := by
  simp [State.powerRefusal, hp]

/-- An accepted POWER SOCKET ON from OFF leaves the supply ON, or in FAULT while SFAULT is high. -/
theorem powerOn_supply (h : (s.socket k).supply = .off) :
    ((powerOn s k).socket k).supply = if s.lines.sfault[k] then .fault else .on := by
  unfold powerOn
  rw [if_neg (by simp [h])]
  split
  · rw [(takeSupplyFault_cascade s k).supply k]
    simp [Socket.unpower]
  · rw [(arbitrate_cascade _).supply k]
    simp [Socket.power]

/-- Settles O18, by the checks in order and the supply that results. -/
theorem powerOnChecksThenPowers : Obligations.PowerOnChecksThenPowers := by
  unfold Obligations.PowerOnChecksThenPowers
  refine fun n b v s h => ⟨fun hb => ?range, fun k hk hv => ?named⟩
  case range =>
    refine fixedCommand_answers h rfl ?_
    by_cases hset : 1 < field8 [b, v] 1
    · exact if_pos hset
    · exact (if_neg hset).trans (ownedSocket_range (hb.resolve_right hset))
  case named =>
    subst hv
    refine ⟨fun ho => ?notOwner, fun ho hp => ?absent, fun ho hp hc => ?cutoff, fun ho hp hc =>
      ⟨fun hs => ?fault, fun hs => ?on, fun hs hf => ⟨_, rfl, ?power⟩, fun hs hf => ⟨_, rfl, ?supplyFault⟩⟩⟩
    case notOwner => exact fixedCommand_answers h rfl (ownedSocket_notOwner hk ho)
    all_goals refine fixedCommand_answers h rfl ((ownedSocket_owned hk ho).trans ?_)
    case absent => simp only [powerRefusal_absent hp, refuse]
    case cutoff => simp only [powerRefusal_present hp, hc, if_true, refuse]
    case fault => simp only [powerRefusal_present hp, hc, hs, Bool.false_eq_true, if_false, if_true, refuse]
    all_goals
      have haccepted : s.powerRefusal k = none := by simp [powerRefusal_present hp, hc, hs]
      simp only [haccepted]
    case on =>
      have hstays : powerOn s k = s := if_pos hs
      simp only [hstays, supplyAnswer, hs]
      rfl
    case power =>
      have hpower : powerOn s k = arbitrate (s.modSocket k (Socket.power s.now)) := by simp [powerOn, hs, hf]
      simp only [supplyAnswer, powerOn_supply hs, hf]
      rw [hpower]
      rfl
    case supplyFault =>
      have hfault : powerOn s k = takeSupplyFault s k := by simp [powerOn, hs, hf]
      simp only [supplyAnswer, powerOn_supply hs, hf]
      rw [hfault, takeSupplyFault, ho]
      rfl

theorem powerOff_supply : ((powerOff s k).socket k).supply = .off := by
  unfold powerOff
  split
  · assumption
  · rw [(arbitrate_cascade _).supply k]
    simp [Socket.unpower]

/-- Settles O19, by the engagement and the supply. -/
theorem powerOffTurnsTheSupplyOff : Obligations.PowerOffTurnsTheSupplyOff := by
  unfold Obligations.PowerOffTurnsTheSupplyOff
  refine fun n b s h => ⟨fun hb => ?range, fun k hk => ⟨fun ho => ?notOwner, fun ho he => ?busy, fun ho he =>
    ⟨fun hs => ?off, fun hs => ?turned⟩⟩⟩
  case range => exact fixedCommand_answers h rfl (ownedSocket_range hb)
  case notOwner => exact fixedCommand_answers h rfl (ownedSocket_notOwner hk ho)
  all_goals refine fixedCommand_answers h rfl ((ownedSocket_owned hk ho).trans ?_)
  case busy => exact if_pos ((hasRun_iff _).mpr he)
  all_goals
    have hfree : ¬ (s.socket k).engagement.hasRun = true := by
      rw [hasRun_iff]
      rcases he with he | he <;> simp [he]
    refine (if_neg hfree).trans ?_
    simp only [supplyAnswer, powerOff_supply]
  case off =>
    have hstays : powerOff s k = s := if_pos hs
    rw [hstays]
    rfl
  case turned =>
    have hturned : powerOff s k = arbitrate (s.modSocket k (Socket.unpower .off)) := if_neg hs
    rw [hturned]
    rfl

/-! ## EFC (R55) -/

/-- The two bytes of a field are the field's bytes. -/
theorem bytes16_eq (lo hi : Byte) : bytes16 (lo.toNat + 256 * hi.toNat) = [lo, hi] := by
  have hlo := lo.isLt
  have hhi := hi.isLt
  have h1 : BitVec.ofNat 8 (lo.toNat + 256 * hi.toNat) = lo := BitVec.eq_of_toNat_eq (by simp; omega)
  have h2 : BitVec.ofNat 8 ((lo.toNat + 256 * hi.toNat) / 256) = hi := BitVec.eq_of_toNat_eq (by simp; omega)
  rw [bytes16, h1, h2]

theorem pullRunning_iff (k : SocketId) (s : State) :
    s.pullRunning k = true ↔
      ∃ l c, (s.socket k).lane = some l ∧ (s.lane l).active = some c ∧ c.request.kind = .pullCheck := by
  unfold State.pullRunning
  cases hl : (s.socket k).lane with
  | none => simp
  | some l =>
    cases hc : (s.lane l).active with
    | none => simp [hc]
    | some c => simp [hc]

/-- Settles O20, by the checks in order. -/
theorem setEfcStoresTheCode : Obligations.SetEfcStoresTheCode := by
  unfold Obligations.SetEfcStoresTheCode
  refine ⟨pullRunning_iff, fun n b lo hi s h => ⟨fun hb => ?range, fun k hk hv =>
    ⟨fun ho => ?notOwner, fun ho hp => ?busy, fun ho hp => ?stored⟩⟩⟩
  case range =>
    refine fixedCommand_answers h rfl ?_
    by_cases hcode : 4095 < field16 [b, lo, hi] 1
    · exact if_pos hcode
    · exact (if_neg hcode).trans (ownedSocket_range (hb.resolve_right hcode))
  all_goals
    have hcode : ¬ 4095 < field16 [b, lo, hi] 1 := Nat.not_lt.mpr hv
    refine fixedCommand_answers h rfl ((if_neg hcode).trans ?_)
  case notOwner => exact ownedSocket_notOwner hk ho
  all_goals refine (ownedSocket_owned hk ho).trans ?_
  case busy => exact if_pos hp
  case stored =>
    refine (if_neg (by simp [hp])).trans ?_
    rw [show field16 [b, lo, hi] 1 = lo.toNat + 256 * hi.toNat from rfl, bytes16_eq]
    rfl

/-! ## Reading a socket (R59) -/

/-- Settles O21, by the owner of the socket. -/
theorem querySocketReportsAndClearsFlags : Obligations.QuerySocketReportsAndClearsFlags := by
  unfold Obligations.QuerySocketReportsAndClearsFlags
  refine ⟨fun x => by cases x <;> rfl, fun x => by cases x <;> rfl, fun n b s h => ⟨fun hb => ?range, fun k hk =>
    ⟨rfl, fun ho => ?own, fun ho => ?other⟩⟩⟩
  case range =>
    refine fixedCommand_answers h rfl ?_
    rw [show socketOf (field8 [b] 0) = none from socketOf_above hb]
    rfl
  all_goals
    refine fixedCommand_answers h rfl ?_
    rw [show socketOf (field8 [b] 0) = some k from socketOf_byte hk]
    simp only [socketPayload, bytes8_eq hk, State.owns, ho, decide_true, decide_false, if_true, Bool.false_eq_true,
      if_false, bytes8_toNat]
  case own => rfl
  case other => rfl

/-- Settles O22, by the definition of the command. -/
theorem setQuietTimeStoresTheByte : Obligations.SetQuietTimeStoresTheByte := by
  unfold Obligations.SetQuietTimeStoresTheByte
  exact fun n b s h => fixedCommand_answers h rfl rfl

/-! ## Presence (R44 to R46) -/

theorem debounceFor_eq (high : Bool) (now : Nat) (x : Socket) :
    x.debounceFor high now =
      if high = true ∧ x.presence = .absent then some (now + 10 * 2000000000)
      else if high = false ∧ x.presence = .present then some (now + 2 * 2000000000)
      else none := by
  unfold Socket.debounceFor
  cases x.presence <;> cases high <;> rfl

/-- Settles O23, by `debounceFor_eq`. -/
theorem presentChangeStartsOrCancelsDebounce : Obligations.PresentChangeStartsOrCancelsDebounce := by
  unfold Obligations.PresentChangeStartsOrCancelsDebounce
  intro k high s hr hp
  simp only [exec, execPresentChange, hr, hp, decide_false, Bool.or_self, Bool.false_eq_true, if_false, debounceFor_eq]

theorem noticeSocket_eq (s : State) (owner : Option StationId) :
    s.noticeSocket owner = match owner with
      | none => s
      | some n => s.modPort n fun p => { p with latched := { p.latched with socket := true } } := by
  cases owner <;> rfl

/-- Settles O24, by the pending debounce. -/
theorem riseAcceptedMakesPresent : Obligations.RiseAcceptedMakesPresent := by
  unfold Obligations.RiseAcceptedMakesPresent
  refine ⟨noticeSocket_eq, fun k d s hr hp hd => ?_⟩
  have hpending : (s.socket k).pendingFrom .absent = some d := (if_pos hp).trans hd
  refine Eq.trans (b := .next (((s.reach d).modSocket k Socket.arrive).noticeSocket (s.socket k).owner)) ?_ rfl
  simp only [exec, execRiseAccepted, hpending, hr, Bool.false_eq_true, if_false]

/-- Settles O25, by the pending debounce. -/
theorem fallAcceptedMakesAbsent : Obligations.FallAcceptedMakesAbsent := by
  unfold Obligations.FallAcceptedMakesAbsent
  intro k d s hp hd
  have hpending : (s.socket k).pendingFrom .present = some d := (if_pos hp).trans hd
  simp only [exec, execFallAccepted, hpending]
  rfl

/-! ## Socket events and their work (R52, R53, R57) -/

theorem dropOrAbort_idle {cause : AbortCause} (h : (s.socket k).engagement = .idle) : dropOrAbort s k cause = s := by
  unfold dropOrAbort
  rw [queuedOf_of_not_queued (by simp [h]), h]
  rfl

theorem dropOrAbort_queued {cause : AbortCause} {r : RequestRef} {q : Request} (h : (s.socket k).engagement = .queued)
    (hr : (s.socket k).request = some r) (hq : s.queued r = some q) :
    dropOrAbort s k cause = arbitrate (leavePool s q) := by
  unfold dropOrAbort
  rw [(queuedOf_of_queued h hr).trans hq]

/-- A socket with a run has it aborted, wherever it is. -/
theorem dropOrAbort_run {cause : AbortCause} {r : RequestRef} (h : (s.socket k).engagement.hasRun = true)
    (hr : (s.socket k).request = some r) : dropOrAbort s k cause = abortRun s r cause := by
  have hqueued : s.queuedOf k = none := queuedOf_of_not_queued fun e => by simp [e, Engagement.hasRun] at h
  simp only [dropOrAbort, hqueued, h, hr]

theorem abortRun_active {cause : AbortCause} {r : RequestRef} {l : LaneId} (h : s.laneRunning r = some l) :
    abortRun s r cause = endActive s l .aborted (some cause) := by
  simp only [abortRun, h]

theorem abortRun_slot {cause : AbortCause} {r : RequestRef} {l : LaneId} (h : s.laneRunning r = none)
    (hl : s.laneHolding r = some l) : abortRun s r cause = abortSlot s l cause := by
  simp only [abortRun, h, hl]

/-- Settles O26, by the engagement of the socket. -/
theorem socketEventsReachTheWork : Obligations.SocketEventsReachTheWork := by
  unfold Obligations.SocketEventsReachTheWork
  refine ⟨fun q s => rfl, fun k cause s => ⟨dropOrAbort_idle, fun r q => dropOrAbort_queued, fun r l he hr hl => ?_,
    fun r l he hr hn hl => ?_⟩⟩
  · rw [dropOrAbort_run (by rw [he]; rfl) hr, abortRun_active hl]
  · rw [dropOrAbort_run (by rw [he]; rfl) hr, abortRun_slot hn hl]

/-- Settles O27, by the supply before the change of level. -/
theorem supplyFaultOnlyFromOn : Obligations.SupplyFaultOnlyFromOn := by
  unfold Obligations.SupplyFaultOnlyFromOn
  refine fun k s => ⟨fun hr hf hs => ?_, fun hs => ?_, ?_⟩
  · simp only [exec, execSupplyFault, hr, hf, hs, decide_true, Bool.not_false, Bool.and_self, if_true]
    rfl
  · simp only [exec, execSupplyFault, hs, decide_false, Bool.and_false, Bool.false_eq_true, if_false]
  · simp only [exec, execSupplyFault, Bool.false_and, Bool.false_eq_true, if_false]

/-- Settles O28, by the supply. -/
theorem poweredForCountsSeconds : Obligations.PoweredForCountsSeconds := by
  unfold Obligations.PoweredForCountsSeconds
  refine fun k s => ⟨fun hs => ?_, fun hs => ?_⟩
  · have hsecond : Socket.secondPassed = fun x => { x with
        poweredFor := if 65535 < x.poweredFor + 1 then 65535 else x.poweredFor + 1
        secondEnd := x.secondEnd + 2000000000000 } := by
      funext x
      simp only [Socket.secondPassed, holdNat, Config.second]
    simp only [exec, execPoweredForIncrease, hs, if_true, hsecond, State.reach]
  · simp only [exec, execPoweredForIncrease, if_neg hs]

end

end Sys2Proof.Machine
end

section
/-!
PROOFS. The line monitor and CUTOFF (03_sockets_and_handler_lines.md, R60 to R64; 06_lanes.md, R109, R116, R117, R127):
O29, O30, O31; erasing and reading a mask (02_masks.md, R35, R36): O33.
-/
namespace Sys2Proof.Machine

/-! ## The line monitor (R60, R61) -/

section
variable {s : State} {l : LaneId}

theorem quietAt_of_ne_held (h : (s.lane l).state ≠ .held) : quietAt s l = s := if_neg h

theorem quietAt_holdPair (h : (s.lane l).state = .held) (hp : (s.lane l).holdPair = true) :
    quietAt s l = s.modLane l fun x => { x with holdQuiet := false } := by
  simp only [quietAt, h, hp, if_true]

theorem quietAt_start (h : (s.lane l).state = .held) (hp : (s.lane l).holdPair = false) :
    quietAt s l = comeToStart s l (s.lane l).pending := by
  simp only [quietAt, h, hp, if_true, Bool.false_eq_true, if_false]

end

/-- Settles O29, by the levels and the timer. -/
theorem motionMakesAndEndsNotQuiet : Obligations.MotionMakesAndEndsNotQuiet := by
  unfold Obligations.MotionMakesAndEndsNotQuiet
  refine ⟨fun u l => ⟨quietAt_of_ne_held, quietAt_holdPair, quietAt_start⟩, fun s hr => ?_⟩
  refine ⟨fun hm => ?rise, fun hm hq => ?fallAtOnce, fun hm hq => ?fall, fun d hd => ?expiry⟩
  case rise =>
    simp only [exec, execMotionAssertion, hr, hm, Bool.or_self, Bool.false_eq_true, if_false]
    rfl
  case fallAtOnce =>
    simp only [exec, execMotionFall, hr, hm, hq, Bool.not_true, Bool.or_self, Bool.false_eq_true, if_false, if_true,
      becomeQuiet]
  case fall =>
    simp only [exec, execMotionFall, hr, hm, hq, Bool.not_true, Bool.or_self, Bool.false_eq_true, if_false,
      Config.millisecond]
  case expiry => simp only [exec, execQuietTimerExpiry, hd, becomeQuiet, State.reach]

/-! ## Motion at a lane (R116, R117, R140) -/

theorem Etu.stop_stopped {e : Etu} (h : e.state = .stopped) : e.stop = e := by
  simp [Etu.stop, Etu.active, h]

theorem Etu.stop_running {e : Etu} (h : e.state ≠ .stopped) :
    e.stop = { e with
      state := .stopped
      qualification := none
      history := []
      periods := 0
      stats := ⟨0, 0, none, none, 0⟩
      glitches := 0
      timeout := none } := by
  simp [Etu.stop, Etu.active, h, PeriodStats.cleared]

theorem motionAt_waiting {s : State} {l : LaneId} (h : (s.lane l).state = .idle ∨ (s.lane l).state = .held) :
    motionAt s l = s := by
  unfold motionAt
  rcases h with h | h <;> rw [h] <;> cases (s.lane l).active <;> rfl

/-- The work a lane in EDGE or CORRELATE abandons is the work it comes to start again. -/
theorem motionAt_working {s : State} {l : LaneId} {c : RunContext} (hc : (s.lane l).active = some c)
    (h : (s.lane l).state = .edge ∨ (s.lane l).state = .correlate) :
    motionAt s l = abandon s l c (if (s.lane l).state = .edge then .edgeStage else .countedSegment) := by
  unfold motionAt
  rcases h with h | h <;> rw [h, hc] <;> rfl

theorem shaken_abort {c : RunContext} (h : c.mask.policy = .abort) :
    c.shaken = { c with disturbances := { c.disturbances with motion := true } } := by
  simp only [RunContext.shaken, h]

theorem shaken_repeat {c : RunContext} (h : c.mask.policy = .repeatWork) :
    c.shaken = { c with
      retries := c.retries + 1
      disturbances := { c.disturbances with motion := true, retried := true } } := by
  simp only [RunContext.shaken, h]

theorem shaken_wait {c : RunContext} (h : c.mask.policy = .wait) :
    c.shaken = { c with disturbances := { c.disturbances with motion := true, waited := true } } := by
  simp only [RunContext.shaken, h]

/-- What is left of a lane whose work motion abandons, with its run as it then is (R116). -/
def abandoned (s : State) (l : LaneId) (d : RunContext) : State :=
  bumpYield (s.modLane l fun x => { x.discardWork with active := some d }) d.request.socket disturbedIndex

theorem abandon_eq (s : State) (l : LaneId) (c : RunContext) (start : PendingStart) :
    abandon s l c start =
      if c.shaken.gaveUp then endActive (abandoned s l c.shaken) l .disturbed none
      else comeToStart (abandoned s l c.shaken) l start := by
  rw [abandoned, shaken_request]
  rfl

/-- Settles O30, by the lane's state and the mask's policy. -/
theorem motionAtALaneFollowsThePolicy : Obligations.MotionAtALaneFollowsThePolicy := by
  unfold Obligations.MotionAtALaneFollowsThePolicy
  refine ⟨fun e => ⟨Etu.stop_stopped, Etu.stop_running⟩, fun s l => ⟨motionAt_waiting, fun c hc => ⟨fun hs => ?settle,
    fun hs => ⟨fun hp => ?abort, fun hp => ?again, fun hp => ?wait⟩⟩⟩⟩
  case settle =>
    simp only [motionAt, hc, hs]
    rfl
  all_goals rw [motionAt_working hc hs, abandon_eq]
  case abort =>
    rw [shaken_abort hp]
    exact if_pos (by simp [RunContext.gaveUp, hp])
  case again =>
    rw [shaken_repeat hp]
    simp only [RunContext.gaveUp, hp, decide_eq_true_eq]
    rfl
  case wait =>
    rw [shaken_wait hp]
    exact if_neg (by simp [RunContext.gaveUp, hp])

/-! ## CUTOFF (R63, R64) -/

/-- Settles O31, by the definitions of the events. -/
theorem cutoffTakesPowerAndEndsRuns : Obligations.CutoffTakesPowerAndEndsRuns := by
  unfold Obligations.CutoffTakesPowerAndEndsRuns
  refine ⟨fun test cause s l => rfl, fun s f => rfl, fun s hr => ⟨fun hc => ⟨_, rfl, ?_⟩, ?_⟩⟩
  · simp only [exec, execCutoffAssertion, hr, hc, Bool.or_self, Bool.false_eq_true, if_false]
    rfl
  · simp only [exec, execCutoffDeassertion, hr, Bool.false_eq_true, if_false]

/-! ## Erasing and reading a mask (R35, R36) -/

theorem maskOf_byte {b : Byte} {m : MaskId} (h : b.toNat = m.val) : maskOf b.toNat = some m := h ▸ maskOf_val m

theorem versionPayload_replaced {b : Byte} {s : State} {m : MaskId} (h : b.toNat = m.val) (contents : Option Mask) :
    versionPayload (s.modMask m (MaskEntry.replace contents)) m = [b, (s.mask m).version + 1] := by
  simp [versionPayload, bytes8_eq h, MaskEntry.replace]

/-- Settles O33, by the entry's contents and reference count. -/
theorem eraseAndReadMask : Obligations.EraseAndReadMask := by
  unfold Obligations.EraseAndReadMask
  refine fun n b s h => ⟨fun hb => ⟨?eraseRange, ?readRange⟩, fun m hm => ⟨fun hc => ⟨?eraseEmpty, ?readEmpty⟩,
    fun c hc => ⟨fun hr => ?inUse, fun hr => ?erased, ?read⟩⟩⟩
  case eraseRange | readRange =>
    refine fixedCommand_answers h rfl ?_
    rw [show maskOf (field8 [b] 0) = none from maskOf_above hb]
    rfl
  all_goals
    refine fixedCommand_answers h rfl ?_
    rw [show maskOf (field8 [b] 0) = some m from maskOf_byte hm]
  case eraseEmpty => simp only [hc, if_true, refuse]
  case readEmpty =>
    simp only [readMask, hc, bytes8_eq hm]
    rfl
  case inUse => simp only [hc, reduceCtorEq, if_false, if_pos hr, refuse]
  case erased =>
    simp only [hc, reduceCtorEq, if_false, hr, lt_irrefl, replaceMask, versionPayload_replaced hm]
    rfl
  case read =>
    simp only [readMask, hc, bytes8_eq hm]
    rfl

end Sys2Proof.Machine
end

section
/-!
PROOFS. The checks of WRITE MASK in order, and the body READ MASK returns (02_masks.md, R33, R34, R36): O32, O34.
-/
namespace Sys2Proof.Machine

/-! ## The checks in order (R34) -/

/-- A check as the answer names it: whether it fails, the field, and the band or 255. -/
def FieldCheck.row (c : FieldCheck) : Bool × Nat × Nat := (c.fails, c.field, c.band)

/-- The first failing check, read from the rows. -/
theorem find?_fails_map (cs : List FieldCheck) :
    (cs.find? FieldCheck.fails).map (fun c => fieldRange c.field c.band) =
      ((cs.map FieldCheck.row).find? fun x => x.1).map fun x => fieldRange x.2.1 x.2.2 := by
  rw [List.find?_map, Option.map_map]
  rfl

theorem not_decadeValid (f d : Nat) : (!decadeValid f d) = decide (f ≤ 4 * 10 ^ d) := by
  simp [decadeValid, ← decide_not]

/-- The rows of band i, whose four bytes start at a (R34, fields 21 to 24). -/
def bandRows (b : List Byte) (f a i : Nat) : List (Bool × Nat × Nat) :=
  [(decide (7 < field8 b a ∨ f ≤ 4 * 10 ^ field8 b a), 21, i),
   (decide (field8 b (a + 1) < field8 b a) || decide (7 < field8 b (a + 1) ∨ f ≤ 4 * 10 ^ field8 b (a + 1)), 22, i),
   (decide (fieldSigned16 b (a + 2) < -1900 ∨ -600 < fieldSigned16 b (a + 2)), 23, i),
   (decide (i ≠ 0 ∧ field8 b a ≤ field8 b (a - 3)), 24, i)]

/-- The check of field 24 reads the last decade of the band before, three bytes before this one. -/
theorem bandChecks_rows (b : List Byte) (f a n i : Nat) (prev : Option Nat)
    (hprev : prev = if i = 0 then none else some (field8 b (a + 4 * i - 3))) :
    (bandChecks f i prev (bandsAt b n (a + 4 * i))).map FieldCheck.row =
      (List.range' i n).flatMap fun j => bandRows b f (a + 4 * j) j := by
  induction n generalizing i prev with
  | zero => rfl
  | succ n ih =>
    have hrest := ih (i + 1) (some (field8 b (a + 4 * i + 1))) (by rw [if_neg (Nat.succ_ne_zero i)]; congr 2)
    rw [List.range'_succ, List.flatMap_cons, ← hrest]
    simp only [bandsAt, bandChecks, List.map_append]
    subst hprev
    refine congrArg₂ (· ++ ·) ?_ rfl
    by_cases hi : i = 0
    · simp [hi, FieldCheck.row, bandRows, not_decadeValid, Bool.decide_or, Bool.or_assoc]
    · simp [hi, FieldCheck.row, bandRows, not_decadeValid, Bool.decide_or, Bool.or_assoc]

theorem bandsAt_eq_map (b : List Byte) (n a : Nat) :
    bandsAt b n a = (List.range n).map fun i =>
      ⟨field8 b (a + 4 * i), field8 b (a + 1 + 4 * i), fieldSigned16 b (a + 2 + 4 * i)⟩ := by
  induction n generalizing a with
  | zero => rfl
  | succ n ih =>
    rw [List.range_succ_eq_map, List.map_cons, List.map_map, bandsAt, ih]
    refine congrArg₂ _ rfl (List.map_congr_left fun i _ => ?_)
    have h : ∀ j, a + 4 + j + 4 * i = a + j + 4 * (i + 1) := fun j => by omega
    simp only [Function.comp_apply, Nat.succ_eq_add_one]
    rw [h 1, h 2, show a + 4 + 4 * i = a + 4 * (i + 1) from h 0]

theorem policyOf_eq (x : Nat) : policyOf x = if x = 0 then .abort else if x = 1 then .repeatWork else .wait := by
  unfold policyOf
  split <;> simp_all

theorem edgeModeOf_eq (x : Nat) : edgeModeOf x = if x = 0 then .rising else if x = 1 then .falling else .both := by
  unfold edgeModeOf
  split <;> simp_all

/-! ## The rows of the checks -/

/-- Fields 4 to 13, in rows. -/
def headerRows (b : List Byte) : List (Bool × Nat × Nat) :=
  let f := field32 b 1
  [(decide (f < 1000000 ∨ 200000000 < f), 4, 255), (decide (field8 b 5 < 1 ∨ 200 < field8 b 5), 5, 255),
   (decide (7200 < field16 b 6), 6, 255), (decide (field16 b 8 < 1 ∨ 3600 < field16 b 8), 7, 255),
   (decide (2 < field8 b 10), 8, 255), (decide (15 < field8 b 11), 9, 255), (decide (15 < field8 b 13), 10, 255),
   (decide (2 < field8 b 14), 11, 255), (decide (15 < field8 b 15 ∨ 1000000000 ≤ field8 b 15 * f), 12, 255),
   (decide (field8 b 16 < 8 ∨ 16 < field8 b 16), 13, 255)]

/-- Fields 14 to 16, in rows. -/
def jitterRows (b : List Byte) : List (Bool × Nat × Nat) :=
  [(decide (field8 b 18 < 8 ∨ 16 < field8 b 18), 14, 255), (decide (field16 b 19 = 0), 15, 255),
   (decide (field32 b 21 = 0 ∨ 1000000 < field32 b 21), 16, 255)]

/-- Fields 17 to 24, in rows. -/
def bandPartRows (b : List Byte) : List (Bool × Nat × Nat) :=
  let o := bandOffset b
  [(decide (14 < field8 b o), 17, 255), (decide (field8 b (o + 1) < field8 b o ∨ 14 < field8 b (o + 1)), 18, 255),
   (decide (100 < field8 b (o + 2)), 19, 255), (decide (200 < field8 b (o + 3)), 20, 255)] ++
  (List.range (bandCount b)).flatMap fun i => bandRows b (field32 b 1) (o + 5 + 4 * i) i

/-- Fields 25 to 28, in rows. -/
def pullRows (b : List Byte) : List (Bool × Nat × Nat) :=
  let u := pullOffset b
  [(decide (4094 < field16 b u), 25, 255),
   (decide (field16 b (u + 2) ≤ field16 b u ∨ 4095 < field16 b (u + 2)), 26, 255),
   (decide (field16 b (u + 4) < 1 ∨ 1000 < field16 b (u + 4)), 27, 255),
   (decide (field16 b (u + 6) < 1 ∨ 2000 < field16 b (u + 6)), 28, 255)]

theorem headerChecks_rows (b : List Byte) :
    (headerChecks (maskFields b) (field8 b 10) (field8 b 13) (field8 b 14)).map FieldCheck.row = headerRows b := by
  simp only [headerRows, Bool.decide_or]
  rfl

/-- The bands of a mask are checked in the order of the body. -/
theorem bandPartChecks_rows (b : List Byte) :
    (bandPartChecks (field32 b 1) ⟨field8 b (bandOffset b), field8 b (bandOffset b + 1), field8 b (bandOffset b + 2),
      field8 b (bandOffset b + 3), bandsAt b (bandCount b) (bandOffset b + 5)⟩).map FieldCheck.row = bandPartRows b := by
  have hbands := bandChecks_rows b (field32 b 1) (bandOffset b + 5) (bandCount b) 0 none rfl
  simp only [bandPartRows, bandPartChecks, List.map_append, List.range_eq_range', Bool.decide_or]
  exact congrArg₂ (· ++ ·) rfl hbands

theorem maskChecks_rows (b : List Byte) :
    (maskChecks b).map FieldCheck.row =
      headerRows b ++ ((if partPresent b 0 then jitterRows b else []) ++
      ((if partPresent b 1 then bandPartRows b else []) ++ (if partPresent b 2 then pullRows b else []))) := by
  simp only [maskChecks, partChecks, List.map_append, headerChecks_rows, List.append_assoc]
  refine congrArg (headerRows b ++ ·) (congrArg₂ (· ++ ·) ?jitter (congrArg₂ (· ++ ·) ?band ?pull))
  case jitter =>
    by_cases h : partPresent b 0 = true
    · simp only [maskFields, h, if_true, jitterRows, Bool.decide_or]
      rfl
    · simp only [maskFields, h, if_false, Bool.false_eq_true]
      rfl
  case band =>
    by_cases h : partPresent b 1 = true
    · simp only [maskFields, h, if_true, bandPartChecks_rows]
    · simp only [maskFields, h, if_false, Bool.false_eq_true]
      rfl
  case pull =>
    by_cases h : partPresent b 2 = true
    · simp only [maskFields, h, if_true, pullRows, Bool.decide_or]
      rfl
    · simp only [maskFields, h, if_false, Bool.false_eq_true]
      rfl

/-- The checks of a body with the rows of fields 4 to 28. -/
theorem bodyError_eq (b : List Byte) :
    bodyError b =
      if 7 < field8 b 17 then some ⟨.range, [2, 255]⟩
      else if partPresent b 1 = true ∧ b.length ≤ bandOffset b + 4 then some ⟨.frame, []⟩
      else if partPresent b 1 = true ∧ (bandCount b = 0 ∨ 8 < bandCount b) then some ⟨.range, [3, 255]⟩
      else if b.length ≠ impliedLength b then some ⟨.frame, []⟩
      else ((headerRows b ++ (if partPresent b 0 then jitterRows b else []) ++
        (if partPresent b 1 then bandPartRows b else []) ++ (if partPresent b 2 then pullRows b else [])).find?
          fun x => x.1).map fun x => ⟨.range, [BitVec.ofNat 8 x.2.1, BitVec.ofNat 8 x.2.2]⟩ := by
  unfold bodyError
  rw [find?_fails_map, maskChecks_rows]
  simp only [List.append_assoc, bandCountMissing, bandCountBad, Bool.and_eq_true, Bool.or_eq_true, decide_eq_true_eq]
  rfl

/-! ## The fields (02_masks.md, The mask frame layout) -/

theorem maskFields_eq (b : List Byte) :
    maskFields b =
      { nominal := field32 b 1
        tolerance := field8 b 5
        warmUp := field16 b 6
        runLimit := field16 b 8
        policy := if field8 b 10 = 0 then .abort else if field8 b 10 = 1 then .repeatWork else .wait
        retryLimit := field8 b 11
        preemptible := bitOf (field8 b 12) 0
        failFast := bitOf (field8 b 12) 1
        copySet := Vector.ofFn fun i : StationId => bitOf (field8 b 13) i.val
        edgeMode := if field8 b 14 = 0 then .rising else if field8 b 14 = 1 then .falling else .both
        glitchSetting := field8 b 15
        periodsExp := field8 b 16
        jitter := if partPresent b 0 then some ⟨field8 b 18, field16 b 19, field32 b 21, field8 b 25⟩ else none
        band :=
          if partPresent b 1 then
            some ⟨field8 b (bandOffset b), field8 b (bandOffset b + 1), field8 b (bandOffset b + 2),
              field8 b (bandOffset b + 3), (List.range (bandCount b)).map fun i =>
                ⟨field8 b (bandOffset b + 5 + 4 * i), field8 b (bandOffset b + 6 + 4 * i),
                  fieldSigned16 b (bandOffset b + 7 + 4 * i)⟩⟩
          else none
        pull :=
          if partPresent b 2 then
            some ⟨field16 b (pullOffset b), field16 b (pullOffset b + 2), field16 b (pullOffset b + 4),
              field16 b (pullOffset b + 6)⟩
          else none } := by
  unfold maskFields
  rw [policyOf_eq, edgeModeOf_eq, bandsAt_eq_map]
  rfl

/-! ## WRITE MASK (R33) -/

/-- No answer of a body's checks is OK. -/
theorem bodyError_status {b : List Byte} {a : Answer} (h : bodyError b = some a) : a.status ≠ .ok := by
  rw [bodyError_eq] at h
  split_ifs at h
  · obtain rfl := Option.some.inj h; simp
  · obtain rfl := Option.some.inj h; simp
  · obtain rfl := Option.some.inj h; simp
  · obtain rfl := Option.some.inj h; simp
  all_goals
    obtain ⟨x, -, rfl⟩ := Option.map_eq_some_iff.mp h
    simp

/-- Settles O32, by `bodyError_eq`, `maskFields_eq` and the checks of the command in order. -/
theorem writeMaskChecksThenReplaces : Obligations.WriteMaskChecksThenReplaces := by
  unfold Obligations.WriteMaskChecksThenReplaces
  refine ⟨bodyError_eq, maskFields_eq, fun n b s h => ⟨fun hl => ?frame, fun hl hm => ?range, fun m hl hm =>
    ⟨fun hr => ?inUse, fun hr => ⟨fun a ha => ⟨bodyError_status ha, ?refused⟩, fun ha => ⟨maskFields_valid ha, ?written⟩⟩⟩⟩⟩
  all_goals refine (takeCommand_taken h _).trans ?_
  case frame => rw [if_pos hl, refuse]
  all_goals rw [if_neg (Nat.not_lt.mpr hl)]
  case range =>
    rw [maskOf_above hm]
    rfl
  all_goals simp only [hm, maskOf_val, writeMask]
  case inUse => rw [if_pos hr, refuse]
  all_goals
    rw [if_neg (by omega)]
    simp only [ha]
  case written =>
    have hversion : (byteAt b 0).toNat = m.val := hm
    simp only [replaceMask, versionPayload_replaced hversion, ← hversion, BitVec.ofNat_toNat, BitVec.setWidth_eq]
    rfl

end Sys2Proof.Machine
end

section
/-!
PROOFS. The body READ MASK returns is the body that was written (02_masks.md, R36): O34. A payload is read as the bytes
from an offset on; each part of the body writes back the bytes it was read from.
-/
namespace Sys2Proof.Machine

/-! ## Bytes from an offset on -/

/-- The n bytes of a payload from offset i on. -/
def bytesFrom (b : List Byte) (i : Nat) : Nat → List Byte
  | 0 => []
  | n + 1 => byteAt b i :: bytesFrom b (i + 1) n

theorem bytesFrom_eq_drop {b : List Byte} {i n : Nat} (h : i + n = b.length) : bytesFrom b i n = b.drop i := by
  induction n generalizing i with
  | zero => rw [bytesFrom, List.drop_eq_nil_of_le (by omega)]
  | succ n ih =>
    have hi : i < b.length := by omega
    rw [bytesFrom, ih (by omega), List.drop_eq_getElem_cons hi]
    simp [byteAt, hi]

theorem bytesFrom_add (b : List Byte) (i m n : Nat) :
    bytesFrom b i (m + n) = bytesFrom b i m ++ bytesFrom b (i + m) n := by
  induction m generalizing i with
  | zero => simp [bytesFrom]
  | succ m ih =>
    rw [Nat.succ_add, bytesFrom, bytesFrom, ih, List.cons_append]
    congr 3
    omega

theorem bytesFrom_congr {b c : List Byte} {i n : Nat} (h : ∀ j, i ≤ j → byteAt c j = byteAt b j) :
    bytesFrom c i n = bytesFrom b i n := by
  induction n generalizing i with
  | zero => rfl
  | succ n ih => rw [bytesFrom, bytesFrom, h i le_rfl, ih fun j hj => h j (by omega)]

theorem byteAt_set_ne {b : List Byte} {i j : Nat} {x : Byte} (h : i ≠ j) : byteAt (b.set i x) j = byteAt b j := by
  simp [byteAt, List.getD_eq_getElem?_getD, List.getElem?_set_ne h]

theorem byteAt_set_self {b : List Byte} {i : Nat} {x : Byte} (h : i < b.length) : byteAt (b.set i x) i = x := by
  simp [byteAt, List.getD_eq_getElem?_getD, h]

/-! ## A field writes back the bytes it was read from -/

theorem bytes8_field (b : List Byte) (i : Nat) : bytes8 (field8 b i) = bytesFrom b i 1 := bytes8_toNat _

theorem bytes16_field (b : List Byte) (i : Nat) : bytes16 (field16 b i) = bytesFrom b i 2 := bytes16_eq _ _

theorem field16_lt (b : List Byte) (i : Nat) : field16 b i < 65536 := by
  have h0 := field8_lt b i
  have h1 := field8_lt b (i + 1)
  unfold field16
  omega

theorem bytes32_field (b : List Byte) (i : Nat) : bytes32 (field32 b i) = bytesFrom b i 4 := by
  have hlow := field16_lt b i
  have h1 : bytes16 (field16 b i + 65536 * field16 b (i + 2)) = bytes16 (field16 b i) := by
    have hlo : BitVec.ofNat 8 (field16 b i + 65536 * field16 b (i + 2)) = BitVec.ofNat 8 (field16 b i) :=
      BitVec.eq_of_toNat_eq (by simp; omega)
    have hhi : BitVec.ofNat 8 ((field16 b i + 65536 * field16 b (i + 2)) / 256) = BitVec.ofNat 8 (field16 b i / 256) :=
      BitVec.eq_of_toNat_eq (by simp; omega)
    rw [bytes16, hlo, hhi, bytes16]
  have h2 : (field16 b i + 65536 * field16 b (i + 2)) / 65536 = field16 b (i + 2) := by omega
  rw [bytes32, field32, h1, h2, bytes16_field, bytes16_field, ← bytesFrom_add]

theorem pattern16_fieldSigned16 (b : List Byte) (i : Nat) : pattern16 (fieldSigned16 b i) = field16 b i := by
  have h := field16_lt b i
  unfold pattern16 fieldSigned16
  split <;> omega

theorem bandBytes_bandsAt (b : List Byte) (n i : Nat) : (bandsAt b n i).flatMap bandBytes = bytesFrom b i (4 * n) := by
  induction n generalizing i with
  | zero => rfl
  | succ n ih =>
    rw [bandsAt, List.flatMap_cons, ih, bandBytes, pattern16_fieldSigned16, bytes8_field, bytes8_field, bytes16_field,
      ← bytesFrom_add, ← bytesFrom_add, ← bytesFrom_add]
    congr 1
    omega

/-! ## Coded bytes within their ranges -/

theorem policyOf_code {x : Nat} (h : x ≤ 2) : (policyOf x).code = x := by
  interval_cases x <;> rfl

theorem edgeModeOf_code {x : Nat} (h : x ≤ 2) : (edgeModeOf x).code = x := by
  interval_cases x <;> rfl

theorem bitOf_toNat_eq (x i : Nat) : (bitOf x i).toNat = x / 2 ^ i % 2 := by
  unfold bitOf
  by_cases h : x / 2 ^ i % 2 = 1
  · simp [h]
  · simp [h]
    omega

theorem bitsOf_two (x : Nat) : bitsOf [bitOf x 0, bitOf x 1] = x % 4 := by
  simp only [bitsOf, List.foldr_cons, List.foldr_nil, bitOf_toNat_eq]
  omega

theorem bitsOf_three {x : Nat} (h : x ≤ 7) : bitsOf [bitOf x 0, bitOf x 1, bitOf x 2] = x := by
  simp only [bitsOf, List.foldr_cons, List.foldr_nil, bitOf_toNat_eq]
  omega

theorem stationBits_stationSetOf {x : Nat} (h : x ≤ 15) : stationBits (stationSetOf x) = x := by
  have hbits : stationBits (stationSetOf x) = bitsOf [bitOf x 0, bitOf x 1, bitOf x 2, bitOf x 3] := by
    simp [stationBits, stationSetOf]
  rw [hbits]
  simp only [bitsOf, List.foldr_cons, List.foldr_nil, bitOf_toNat_eq]
  omega

/-! ## The body -/

/-- A part is present where bit i of the parts-present byte says so. -/
theorem maskFields_isSome (b : List Byte) :
    (maskFields b).jitter.isSome = partPresent b 0 ∧ (maskFields b).band.isSome = partPresent b 1 ∧
    (maskFields b).pull.isSome = partPresent b 2 := by
  refine ⟨?_, ?_, ?_⟩
  · cases h : partPresent b 0 <;> simp [maskFields, h]
  · cases h : partPresent b 1 <;> simp [maskFields, h]
  · cases h : partPresent b 2 <;> simp [maskFields, h]

/-- The raw bytes that a body without a failing check codes values in. -/
theorem codedBytes_le {b : List Byte} (h : bodyError b = none) :
    field8 b 10 ≤ 2 ∧ field8 b 13 ≤ 15 ∧ field8 b 14 ≤ 2 ∧ field8 b 17 ≤ 7 := by
  obtain ⟨hparts, -, -, -, hchecks⟩ := (bodyError_eq_none_iff b).mp h
  have hheader : ∀ c ∈ headerChecks (maskFields b) (field8 b 10) (field8 b 13) (field8 b 14), c.fails = false :=
    fun c hc => hchecks c (List.mem_append_left _ hc)
  simp only [headerChecks, List.forall_mem_cons, decide_eq_false_iff_not, Nat.not_lt] at hheader
  obtain ⟨-, -, -, -, hpolicy, -, hcopies, hedge, -⟩ := hheader
  exact ⟨hpolicy, hcopies, hedge, hparts⟩

/-- The header bytes of the body: those written, without the unused bits of byte 12. -/
def headerBytes (b : List Byte) : List Byte :=
  bytesFrom b 1 11 ++ [BitVec.ofNat 8 (field8 b 12 % 4)] ++ bytesFrom b 13 5

theorem maskBody_maskFields {b : List Byte} (h : bodyError b = none) :
    maskBody (maskFields b) =
      headerBytes b ++ bytesFrom b 18 (if partPresent b 0 then 8 else 0) ++
      bytesFrom b (bandOffset b) (if partPresent b 1 then 5 + 4 * bandCount b else 0) ++
      bytesFrom b (pullOffset b) (if partPresent b 2 then 8 else 0) := by
  obtain ⟨hpolicy, hcopies, hedge, hparts⟩ := codedBytes_le h
  refine congrArg₂ (· ++ ·) (congrArg₂ (· ++ ·) (congrArg₂ (· ++ ·) ?header ?jitter) ?band) ?pull
  case header =>
    obtain ⟨hjitter, hband, hpull⟩ := maskFields_isSome b
    rw [hjitter, hband, hpull]
    simp only [maskFields, policyOf_code hpolicy, edgeModeOf_code hedge, stationBits_stationSetOf hcopies, bitsOf_two,
      partPresent, bitsOf_three hparts, bytes8_field, bytes16_field, bytes32_field]
    rfl
  case jitter =>
    by_cases hp : partPresent b 0 = true
    · simp only [maskFields, hp, if_true, bytes8_field, bytes16_field, bytes32_field]
      rfl
    · simp only [maskFields, hp, if_false, Bool.false_eq_true]
      rfl
  case band =>
    by_cases hp : partPresent b 1 = true
    · simp only [maskFields, hp, if_true, bandsAt_length, bandBytes_bandsAt, bytes8_field,
        show bandCount b = field8 b (bandOffset b + 4) from rfl]
      rw [bytesFrom_add b _ 5]
      rfl
    · simp only [maskFields, hp, if_false, Bool.false_eq_true]
      rfl
  case pull =>
    by_cases hp : partPresent b 2 = true
    · simp only [maskFields, hp, if_true, bytes16_field]
      rfl
    · simp only [maskFields, hp, if_false, Bool.false_eq_true]
      rfl

/-- The payload of a body without a failing check, part by part. -/
theorem bytesFrom_parts {b : List Byte} (h : b.length = impliedLength b) :
    bytesFrom b 18 (b.length - 18) =
      bytesFrom b 18 (if partPresent b 0 then 8 else 0) ++
      (bytesFrom b (bandOffset b) (if partPresent b 1 then 5 + 4 * bandCount b else 0) ++
      bytesFrom b (pullOffset b) (if partPresent b 2 then 8 else 0)) := by
  have hlength : b.length - 18 = (if partPresent b 0 then 8 else 0) +
      ((if partPresent b 1 then 5 + 4 * bandCount b else 0) + if partPresent b 2 then 8 else 0) := by
    rw [h, impliedLength, pullOffset, bandOffset]
    omega
  rw [hlength, bytesFrom_add, bytesFrom_add]
  rfl

/-- Settles O34, by `maskBody_maskFields` and `bytesFrom_parts`. -/
theorem maskBodyReadsBackAsWritten : Obligations.MaskBodyReadsBackAsWritten := by
  unfold Obligations.MaskBodyReadsBackAsWritten
  intro b hb h
  obtain ⟨-, -, -, hlength, -⟩ := (bodyError_eq_none_iff b).mp h
  have hdrop : 1 + (17 + (b.length - 18)) = (b.set 12 (BitVec.ofNat 8 (field8 b 12 % 4))).length := by
    rw [List.length_set]
    omega
  have hheader : bytesFrom (b.set 12 (BitVec.ofNat 8 (field8 b 12 % 4))) 1 17 = headerBytes b := by
    have hself := byteAt_set_self (b := b) (i := 12) (x := BitVec.ofNat 8 (field8 b 12 % 4)) (by omega)
    have hother : ∀ j, 12 ≠ j → byteAt (b.set 12 (BitVec.ofNat 8 (field8 b 12 % 4))) j = byteAt b j :=
      fun j hj => byteAt_set_ne hj
    simp [bytesFrom, headerBytes, hself, hother]
  have htail : bytesFrom (b.set 12 (BitVec.ofNat 8 (field8 b 12 % 4))) 18 (b.length - 18) =
      bytesFrom b 18 (b.length - 18) := bytesFrom_congr fun j hj => byteAt_set_ne (by omega)
  calc maskBody (maskFields b)
      = headerBytes b ++ bytesFrom b 18 (b.length - 18) := by
        rw [maskBody_maskFields h, bytesFrom_parts hlength, List.append_assoc, List.append_assoc]
    _ = bytesFrom (b.set 12 (BitVec.ofNat 8 (field8 b 12 % 4))) 1 (17 + (b.length - 18)) := by
        rw [bytesFrom_add, hheader, htail]
    _ = _ := bytesFrom_eq_drop hdrop

end Sys2Proof.Machine
end

section
/-!
PROOFS. The reference pairs and the link (04_reference_pairs_and_the_management_link.md, R66 to R82): O36, O38 to O41.
-/
namespace Sys2Proof.Machine

/-! ## Synthesizers and lock lines -/

theorem pairOfSynth_synthAddr (p : PairId) (y : Synth) : pairOfSynth (synthAddr p y) = p := by
  revert p
  cases y <;> decide

theorem synthAddr_ne (p : PairId) : synthAddr p .b ≠ synthAddr p .a := by
  revert p
  decide

theorem pair_cases (p : PairId) : p = 0 ∨ p = 1 := by
  revert p
  decide

theorem otherPair_eq (p : PairId) : otherPair p = 1 - p := by
  revert p
  decide

/-- The lock line of a synthesizer is numbered by its link address. -/
theorem lock_a (x : Lines) (p : PairId) : x.lock[synthAddr p .a] = x.lock[2 * p.val]'(by have := p.isLt; omega) := by
  have h : (synthAddr p .a).val = 2 * p.val := by revert p; decide
  simp only [Fin.getElem_fin, h]

theorem lock_b (x : Lines) (p : PairId) :
    x.lock[synthAddr p .b] = x.lock[2 * p.val + 1]'(by have := p.isLt; omega) := by
  have h : (synthAddr p .b).val = 2 * p.val + 1 := by revert p; decide
  simp only [Fin.getElem_fin, h]

theorem bothLocked_iff (s : State) (p : PairId) :
    s.bothLocked p = true ↔ s.lines.lock[synthAddr p .a] = true ∧ s.lines.lock[synthAddr p .b] = true := by
  simp only [State.bothLocked, Bool.and_eq_true]

theorem pairOf_byte {b : Byte} {p : PairId} (h : b.toNat = p.val) : pairOf b.toNat = some p := h ▸ pairOf_val p

theorem modPair_congr {s : State} {p : PairId} {f g : Pair → Pair} (h : f (s.pair p) = g (s.pair p)) :
    s.modPair p f = s.modPair p g :=
  congrArg (fun pairs => { s with pairs := pairs }) (updateAt_congr h)

/-- A change of a pair is the change of what stands in it. -/
theorem modPair_eq_const (s : State) (p : PairId) (f : Pair → Pair) :
    s.modPair p f = s.modPair p fun _ => f (s.pair p) := modPair_congr rfl

theorem modLane_congr {s : State} {l : LaneId} {f g : Lane → Lane} (h : f (s.lane l) = g (s.lane l)) :
    s.modLane l f = s.modLane l g :=
  congrArg (fun lanes => { s with lanes := lanes }) (updateAt_congr h)

/-- Settles O36, by the byte that names the pair. -/
theorem queryPairReportsThePair : Obligations.QueryPairReportsThePair := by
  unfold Obligations.QueryPairReportsThePair
  refine ⟨fun x => by cases x <;> rfl, fun x => by cases x <;> rfl, ?codes, fun n b s h => ⟨fun hb => ?range, fun p hp =>
    ⟨rfl, ?answer⟩⟩⟩
  case codes =>
    rintro (_ | x)
    · rfl
    · cases x <;> rfl
  case range =>
    refine fixedCommand_answers h rfl ?_
    rw [show pairOf (field8 [b] 0) = none from pairOf_above hb]
    rfl
  case answer =>
    refine fixedCommand_answers h rfl ?_
    rw [show pairOf (field8 [b] 0) = some p from pairOf_byte hp]
    simp only [pairPayload, bytes8_eq hp, lock_a, lock_b]
    rfl

/-! ## The link (R70, R72) -/

theorem enterLocking_locked {s : State} {p : PairId} (h : s.bothLocked p = true) :
    enterLocking s p = s.modPair p fun x => x.settleFor s.now x.settleInterval := if_pos h

theorem enterLocking_unlocked {s : State} {p : PairId} (h : ¬ s.bothLocked p = true) :
    enterLocking s p = s.modPair p fun x => { x with state := .locking, lockTimer := some (s.now + Config.lockTime) } :=
  if_neg h

/-- A first lock or a change of range settles for 200 ms, any other lock for 100 ms (R74). -/
theorem settleInterval_eq (x : Pair) :
    x.settleInterval =
      if x.firstLock = true ∨ x.range ≠ x.lastReadyRange then 200 * 2000000000 else 100 * 2000000000 := by
  simp only [Pair.settleInterval, Bool.or_eq_true, decide_eq_true_eq]
  rfl

theorem linkGrant_busy {s : State} (h : s.link.current ≠ none) : linkGrant s = s :=
  if_pos (Option.isSome_iff_ne_none.mpr h)

theorem linkGrant_free {s : State} (h : s.link.current = none) :
    linkGrant s = match s.linkChoice with
      | none => s
      | some p => grantTo s p := by
  unfold linkGrant
  rw [h]
  rfl

theorem linkChoice_none {s : State} (h0 : (s.pair 0).queue = []) (h1 : (s.pair 1).queue = []) :
    s.linkChoice = none := by
  simp only [State.linkChoice, h0, h1]

/-- The engine that offers alone, or that the pointer names, is granted (R72). -/
theorem linkChoice_some {s : State} {p : PairId} {t : LinkTransaction} {rest : List LinkTransaction}
    (h : (s.pair p).queue = t :: rest) (ho : (s.pair (1 - p)).queue = [] ∨ s.link.pointer = p) :
    s.linkChoice = some p := by
  unfold State.linkChoice
  rcases pair_cases p with rfl | rfl
  · have ho : (s.pair 1).queue = [] ∨ s.link.pointer = 0 := ho
    cases h1 : (s.pair 1).queue with
    | nil => simp [h]
    | cons x xs => simpa [h, h1] using ho
  · have ho : (s.pair 0).queue = [] ∨ s.link.pointer = 1 := ho
    cases h0 : (s.pair 0).queue with
    | nil => simp [h]
    | cons x xs => simpa [h, h0] using ho

theorem grantTo_offered {s : State} {p : PairId} {t : LinkTransaction} {rest : List LinkTransaction}
    (h : (s.pair p).queue = t :: rest) :
    grantTo s p = (s.modPair p fun x => { x with queue := rest }).modLink fun _ => ⟨some (p, t), 1 - p⟩ := by
  simp only [grantTo, h, otherPair_eq]

theorem imageAt_a (s : State) (p : PairId) : s.imageAt p (synthAddr p .a) = (s.pair p).image .a := if_pos rfl

theorem imageAt_b (s : State) (p : PairId) : s.imageAt p (synthAddr p .b) = (s.pair p).image .b :=
  if_neg (synthAddr_ne p)

/-- Settles O38, by the link's current transaction and the queues. -/
theorem linkCompletionsAndGrants : Obligations.LinkCompletionsAndGrants := by
  unfold Obligations.LinkCompletionsAndGrants
  refine ⟨fun s p => ⟨imageAt_a s p, imageAt_b s p⟩, fun u p => ⟨fun h => ?locked, fun h => ?unlocked⟩, fun s p a => ?_⟩
  case locked =>
    have hboth : u.bothLocked p = true := (bothLocked_iff u p).mpr (by rw [lock_a, lock_b]; exact h)
    simp only [enterLocking_locked hboth, Pair.settleFor, settleInterval_eq]
  case unlocked =>
    have hboth : ¬ u.bothLocked p = true := fun hb => h (by
      have := (bothLocked_iff u p).mp hb
      rwa [lock_a, lock_b] at this)
    exact enterLocking_unlocked hboth
  refine ⟨fun i w hc => ?write, fun i k words hc hs => ⟨fun hw hq => ?more, fun hw hq => ?last, fun hw => ?mismatch⟩,
    fun hc => ⟨fun h0 h1 => ?none, fun t rest hq ho => ?some⟩, linkGrant_busy⟩
  case write =>
    simp only [exec, execRmlWriteComplete, hc]
    rfl
  case none =>
    rw [linkGrant_free hc, linkChoice_none h0 h1]
  case some =>
    rw [linkGrant_free hc, linkChoice_some hq ho]
    exact grantTo_offered hq
  all_goals
    have hidle : ((linkDone s).pair p).state = .programming := hs
    simp only [exec, execRmlReadIncrementComplete, hc, takeReadback, if_pos hidle]
  case more =>
    rw [if_pos (show words = (linkDone s).imageAt p a from hw), if_neg (show ((linkDone s).pair p).queue ≠ [] from hq)]
    rfl
  case last =>
    rw [if_pos (show words = (linkDone s).imageAt p a from hw), if_pos (show ((linkDone s).pair p).queue = [] from hq)]
    rfl
  case mismatch =>
    rw [if_neg (show words ≠ (linkDone s).imageAt p a from hw)]
    rfl

/-! ## Failed attempts (R73, R80) -/

theorem attachedTo_iff (p : PairId) (x : Option RunContext) :
    attachedTo p x = true ↔ ∃ c, x = some c ∧ c.pair = some p := by
  cases x <;> simp [attachedTo]

theorem failed_pair (s : State) (p : PairId) (why : PairFailure) :
    (s.modPair p (Pair.failed why)).pair p = (s.pair p).failed why := by simp

/-- Settles O39, by the attempt count before the failure. -/
theorem failedAttemptsReprogramOrFault : Obligations.FailedAttemptsReprogramOrFault := by
  unfold Obligations.FailedAttemptsReprogramOrFault
  refine ⟨attachedTo_iff, fun s p => ⟨fun d hs hd => ?lock, fun d hs hd => ?relock, fun why => ⟨fun ha => ?again, fun ha =>
    ?fault⟩⟩⟩
  case lock => simp only [exec, execLockTimerExpiry, Pair.timerIn, hs, hd, if_true, State.reach]
  case relock => simp only [exec, execRelockTimerExpiry, Pair.timerIn, hs, hd, if_true, State.reach]
  case again =>
    have hmore : ¬ 3 ≤ ((s.modPair p (Pair.failed why)).pair p).attempts := by
      rw [failed_pair]
      show ¬ 3 ≤ (s.pair p).attempts + 1
      omega
    simp only [failAttempt, if_neg hmore, modPair_modPair]
    rw [modPair_eq_const]
    rfl
  case fault =>
    have hthird : 3 ≤ ((s.modPair p (Pair.failed why)).pair p).attempts := by
      rw [failed_pair]
      show 3 ≤ (s.pair p).attempts + 1
      omega
    simp only [failAttempt, if_pos hthird, enterFault, modPair_modPair]
    rw [modPair_eq_const]
    rfl

/-! ## Lock lines (R74, R78, R79, R119) -/

section
variable {s : State} {l : LaneId} {p : PairId} {c : RunContext}

theorem attachedTo_none (h : ∀ c, (s.lane l).active = some c → c.pair ≠ some p) :
    attachedTo p (s.lane l).active = false := by
  rw [Bool.eq_false_iff, ne_eq, attachedTo_iff]
  rintro ⟨c, hc, hp⟩
  exact h c hc hp

theorem attachedTo_some (h : (s.lane l).active = some c) (hp : c.pair = some p) :
    attachedTo p (s.lane l).active = true := (attachedTo_iff p _).mpr ⟨c, h, hp⟩

theorem unlockAt_other (h : attachedTo p (s.lane l).active = false) : unlockAt p s l = s := by
  simp only [unlockAt, h, Bool.false_eq_true, if_false]

theorem loseLock_ready (h : (s.pair p).state = .ready) :
    loseLock s p = allLanes.foldl (unlockAt p) (s.modPair p (Pair.relock s.now)) := by
  simp only [loseLock, h]

theorem loseLock_busy (h : (s.pair p).state ∈ [PairState.settling, .calibrating]) :
    loseLock s p = s.modPair p (Pair.relock s.now) := by
  unfold loseLock
  rcases List.mem_pair.mp h with h | h <;> rw [h]

theorem loseLock_other (h : (s.pair p).state ∉ [PairState.settling, .calibrating, .ready]) : loseLock s p = s := by
  unfold loseLock
  cases hs : (s.pair p).state with
  | settling | calibrating | ready => simp [hs] at h
  | _ => rfl

theorem gainLock_locking (h : (s.pair p).state = .locking) :
    gainLock s p = s.modPair p fun x => x.settleFor s.now x.settleInterval := by
  simp only [gainLock, h]

theorem gainLock_relocking (h : (s.pair p).state = .relocking) :
    gainLock s p = s.modPair p (Pair.settleFor s.now Config.shortSettle) := by
  simp only [gainLock, h]

theorem gainLock_other (h : (s.pair p).state ∉ [PairState.locking, .relocking]) : gainLock s p = s := by
  unfold gainLock
  cases hs : (s.pair p).state with
  | locking | relocking => simp [hs] at h
  | _ => rfl

/-- A rise of a lock line outside a device reset reaches its pair when both lines are then high. -/
theorem exec_lockRise {y : Synth} (hr : s.inReset = false) (hl : s.lines.lock[synthAddr p y] = false) :
    exec (.lockRise (synthAddr p y)) s = .next
      (if (s.modLines fun x => { x with lock := x.lock.set (synthAddr p y) true }).bothLocked p then
        gainLock (s.modLines fun x => { x with lock := x.lock.set (synthAddr p y) true }) p
      else s.modLines fun x => { x with lock := x.lock.set (synthAddr p y) true }) := by
  simp only [exec, execLockRise, hr, hl, Bool.or_self, Bool.false_eq_true, if_false, pairOfSynth_synthAddr]

/-- A fall of a lock line outside a device reset reaches its pair. -/
theorem exec_lockFall {y : Synth} (hr : s.inReset = false) (hl : s.lines.lock[synthAddr p y] = true) :
    exec (.lockFall (synthAddr p y)) s = .next
      (loseLock (s.modLines fun x => { x with lock := x.lock.set (synthAddr p y) false }) p) := by
  simp only [exec, execLockFall, hr, hl, Bool.not_true, Bool.or_self, Bool.false_eq_true, if_false,
    pairOfSynth_synthAddr]

end

/-- Settles O40, by the state of the pair and of the lane. -/
theorem lockLinesSettleAndRelock : Obligations.LockLinesSettleAndRelock := by
  unfold Obligations.LockLinesSettleAndRelock
  refine ⟨bothLocked_iff, fun u l p => ⟨fun h => unlockAt_other (attachedTo_none h), fun c hc hp => ?lanes⟩,
    fun s p y hr => ⟨fun hl => ⟨fun hb => ?oneHigh, fun hb => ⟨fun hs => ?locking, fun hs => ?relocking, fun hs => ?other⟩⟩,
      fun hl => ⟨fun hs => ?ready, fun hs => ?settling, fun hs => ?falls⟩⟩⟩
  case lanes =>
    have hattached := attachedTo_some hc hp
    refine ⟨fun hs => ?work, fun hs hw => ?held, fun hs hw => ?heldElse, fun hs => ?rest⟩
    case work =>
      rcases List.mem_pair.mp hs with hs | hs
      all_goals
        simp only [unlockAt, hattached, hs, if_true]
        refine congrArg (fun t => comeToStart t l .settle) (modLane_congr ?_)
        simp only [hc]
        rfl
    case held =>
      have hpending : (u.lane l).pending = .settle ∨ (u.lane l).pending = .countedSegment := List.mem_pair.mp hw
      simp only [unlockAt, hattached, hs, if_true, if_pos hpending]
    case heldElse =>
      have hpending : ¬ ((u.lane l).pending = .settle ∨ (u.lane l).pending = .countedSegment) := fun h =>
        hw (List.mem_pair.mpr h)
      simp only [unlockAt, hattached, hs, if_true, if_neg hpending]
    case rest =>
      rcases List.mem_pair.mp hs with hs | hs <;> simp only [unlockAt, hattached, hs, if_true]
  case oneHigh => simp only [exec_lockRise hr hl, hb, Bool.false_eq_true, if_false]
  case locking =>
    rw [exec_lockRise hr hl, if_pos hb]
    refine congrArg Host.Outcome.next ((gainLock_locking (s := s.modLines _) hs).trans (modPair_congr ?_))
    simp [Pair.settleFor, settleInterval_eq]
  case relocking =>
    rw [exec_lockRise hr hl, if_pos hb]
    exact congrArg Host.Outcome.next (gainLock_relocking hs)
  case other =>
    rw [exec_lockRise hr hl, if_pos hb]
    exact congrArg Host.Outcome.next (gainLock_other hs)
  case ready => exact (exec_lockFall hr hl).trans (congrArg Host.Outcome.next (loseLock_ready hs))
  case settling => exact (exec_lockFall hr hl).trans (congrArg Host.Outcome.next (loseLock_busy hs))
  case falls => exact (exec_lockFall hr hl).trans (congrArg Host.Outcome.next (loseLock_other hs))

/-! ## Settling and calibration (R75 to R77) -/

section
variable {s : State} {l : LaneId} {p : PairId} {c : RunContext}

theorem readyAt_other (h : (s.lane l).state ≠ .held ∨ attachedTo p (s.lane l).active = false) : readyAt p s l = s := by
  refine if_neg ?_
  rintro ⟨hs, ha⟩
  exact h.elim (fun h => h hs) fun h => by simp [h] at ha

theorem readyAt_held (hs : (s.lane l).state = .held) (ha : attachedTo p (s.lane l).active = true) :
    readyAt p s l =
      if (s.lane l).holdQuiet then s.modLane l fun x => { x with holdPair := false }
      else comeToStart s l (s.lane l).pending := if_pos ⟨hs, ha⟩

end

theorem calibratedFloors_eq (f : Nat) (v : Vector Level 8) :
    calibratedFloors f v = Vector.ofFn fun d : Fin 8 =>
      if 4 * 10 ^ d.val < f then holdInt (-1900) (-1000) (roundDiv v[d].num v[d].den) else -1000 := by
  simp only [calibratedFloors, decadeValid, decide_eq_true_eq, tenths]

/-- Settles O41, by the state of the pair and of the lane. -/
theorem settlingAndCalibrationLeadToReady : Obligations.SettlingAndCalibrationLeadToReady := by
  unfold Obligations.SettlingAndCalibrationLeadToReady
  refine ⟨fun u l p => ⟨fun h => readyAt_other (h.imp_right attachedTo_none), fun c hs hc hp => ⟨fun hq => ?quiet,
    fun hq => ?start⟩⟩, fun s p => ⟨fun d hs hd => ⟨fun hc => ?toReady, fun hc => ?toCalibrating⟩, fun v hs => ?calibrated,
    rfl⟩⟩
  case quiet => rw [readyAt_held hs (attachedTo_some hc hp), if_pos hq]
  case start => rw [readyAt_held hs (attachedTo_some hc hp), if_neg (by simp [hq])]
  case toReady => simp only [exec, execSettleTimerExpiry, Pair.timerIn, hs, hd, hc, if_true, State.reach]
  case toCalibrating =>
    simp only [exec, execSettleTimerExpiry, Pair.timerIn, hs, hd, hc, if_true, Bool.false_eq_true, if_false, State.reach]
    rfl
  case calibrated =>
    simp only [exec, execCalibrationCompletion, hs, if_true, ← calibratedFloors_eq]
    rfl

end Sys2Proof.Machine
end

section
/-!
PROOFS. The request pool's commands (05_request_pool_dispatch_and_the_pair_planner.md, R85 to R96): O42, O43, O44.
-/
namespace Sys2Proof.Machine

/-! ## Where a live request is -/

section
variable {s : State} {r : RequestRef} {l : LaneId}

theorem mem_allLanes (l : LaneId) : l ∈ allLanes := by revert l; decide

theorem mem_allPairs (p : PairId) : p ∈ allPairs := by revert p; decide

theorem ref_eq_iff (q : Request) : q.ref = r ↔ q.station = r.station ∧ q.id = r.id := by
  cases r; simp [Request.ref]

theorem Lane.runs_iff (x : Lane) : x.runs r = true ↔ ∃ c, x.active = some c ∧ c.request.ref = r := by
  unfold Lane.runs; cases x.active <;> simp

theorem Lane.holds_iff (x : Lane) : x.holds r = true ↔ ∃ c, x.slot = some c ∧ c.request.ref = r := by
  unfold Lane.holds; cases x.slot <;> simp

theorem queued_ref {q : Request} (h : s.queued r = some q) : q.ref = r := by
  simpa using List.find?_some h

theorem not_queued (h : s.queued r = none) {q : Request} (hq : q ∈ s.pool.requests) : q.ref ≠ r := by
  simpa using List.find?_eq_none.mp h q hq

theorem laneRunning_active (h : s.laneRunning r = some l) : ∃ c, (s.lane l).active = some c ∧ c.request.ref = r :=
  (Lane.runs_iff _).mp (List.find?_some (p := fun l => (s.lane l).runs r) h)

theorem not_running (h : s.laneRunning r = none) {c : RunContext} (hc : (s.lane l).active = some c) : c.request.ref ≠ r :=
  fun e => List.find?_eq_none.mp h l (mem_allLanes l) ((Lane.runs_iff _).mpr ⟨c, hc, e⟩)

theorem laneHolding_slot (h : s.laneHolding r = some l) : ∃ c, (s.lane l).slot = some c ∧ c.request.ref = r :=
  (Lane.holds_iff _).mp (List.find?_some (p := fun l => (s.lane l).holds r) h)

theorem not_holding (h : s.laneHolding r = none) {c : RunContext} (hc : (s.lane l).slot = some c) : c.request.ref ≠ r :=
  fun e => List.find?_eq_none.mp h l (mem_allLanes l) ((Lane.holds_iff _).mpr ⟨c, hc, e⟩)

theorem place_none (h : s.live r = false) : s.place r = none := by
  simp only [State.live, Bool.or_eq_false_iff, Option.isSome_eq_false_iff, Option.isNone_iff_eq_none] at h
  simp only [State.place, h.1.1, h.1.2, h.2]

theorem place_pool {q : Request} (h : s.queued r = some q) : s.place r = some (.pool q) := by
  simp only [State.place, h]

theorem place_lane (hq : s.queued r = none) (h : s.laneRunning r = some l) : s.place r = some (.lane l) := by
  simp only [State.place, hq, h]

theorem place_slot (hq : s.queued r = none) (hr : s.laneRunning r = none) (h : s.laneHolding r = some l) :
    s.place r = some (.slot l) := by
  simp only [State.place, hq, hr, h]

end

/-- The id that two bytes of a payload carry, the low byte first. -/
theorem requestId_eq (lo hi : Byte) : BitVec.ofNat 16 (lo.toNat + 256 * hi.toNat) = hi ++ lo := by
  apply BitVec.eq_of_toNat_eq
  have := lo.isLt
  have := hi.isLt
  rw [BitVec.toNat_append, ← Nat.shiftLeft_add_eq_or_of_lt lo.isLt, Nat.shiftLeft_eq, BitVec.toNat_ofNat]
  omega

theorem bytes16_requestId (lo hi : Byte) : bytes16 (hi ++ lo : RequestId).toNat = [lo, hi] := by
  rw [← requestId_eq, BitVec.toNat_ofNat, Nat.mod_eq_of_lt (by have := lo.isLt; have := hi.isLt; omega), bytes16_eq]

/-! ## CANCEL (R92) -/

section
variable {n : StationId} {s : State} {lo hi : Byte}

theorem cancel_none (h : s.takes n = true) (hp : s.place ⟨n, hi ++ lo⟩ = none) :
    exec (.cancel n [lo, hi]) s = .next (s.answerAt n ⟨.noSuch, []⟩) := by
  refine fixedCommand_answers h rfl ?_
  rw [show BitVec.ofNat 16 (field16 [lo, hi] 0) = hi ++ lo from requestId_eq lo hi, hp]
  rfl

theorem cancel_some (h : s.takes n = true) {x : Place} (hp : s.place ⟨n, hi ++ lo⟩ = some x) :
    exec (.cancel n [lo, hi]) s = .next ((cancelAt s x).answerAt n ⟨.ok, [lo, hi] ++ bytes8 x.code⟩) := by
  refine fixedCommand_answers h rfl ?_
  rw [show BitVec.ofNat 16 (field16 [lo, hi] 0) = hi ++ lo from requestId_eq lo hi, hp,
    show bytes16 (field16 [lo, hi] 0) = [lo, hi] from bytes16_eq lo hi]

end

/-- Settles O43, by the place of the request: the pool, a lane, a suspend slot, or none. -/
theorem cancelEndsTheCallersRequest : Obligations.CancelEndsTheCallersRequest := by
  unfold Obligations.CancelEndsTheCallersRequest
  refine ⟨fun s r => ⟨fun q h => ⟨queued_mem s h, (ref_eq_iff q).mp (queued_ref h)⟩,
    fun h q hq => fun e => not_queued h hq ((ref_eq_iff q).mpr e),
    fun l h => ?running, fun h l c hc => fun e => not_running h hc ((ref_eq_iff _).mpr e),
    fun l h => ?holding, fun h l c hc => fun e => not_holding h hc ((ref_eq_iff _).mpr e)⟩,
    fun n lo hi s h => ⟨fun hl => cancel_none h (place_none hl), fun q hq => cancel_some h (place_pool hq),
      fun l hq hl => cancel_some h (place_lane hq hl), fun l hq hr hl => cancel_some h (place_slot hq hr hl)⟩⟩
  case running =>
    obtain ⟨c, hc, e⟩ := laneRunning_active h
    exact ⟨c, hc, (ref_eq_iff _).mp e⟩
  case holding =>
    obtain ⟨c, hc, e⟩ := laneHolding_slot h
    exact ⟨c, hc, (ref_eq_iff _).mp e⟩

/-! ## SUBMIT (R88 to R90) -/

/-- The live requests, by where they are. -/
theorem mem_liveRequests_iff (s : State) (q : Request) : q ∈ s.liveRequests ↔
    q ∈ s.pool.requests ∨ ∃ l c, ((s.lane l).active = some c ∨ (s.lane l).slot = some c) ∧ c.request = q := by
  simp only [State.liveRequests, State.runs, Lane.contexts, List.mem_append, List.mem_map, List.mem_flatMap, mem_allLanes,
    true_and, Option.mem_toList, exists_comm (α := LaneId), exists_and_right]

theorem live_by_place (s : State) (r : RequestRef) : s.live r = true ↔
    (∃ q ∈ s.pool.requests, q.ref = r) ∨
    ∃ l c, ((s.lane l).active = some c ∨ (s.lane l).slot = some c) ∧ c.request.ref = r := by
  rw [live_iff]
  constructor
  · rintro ⟨q, hq, e⟩
    rcases (mem_liveRequests_iff s q).mp hq with hpool | ⟨l, c, hc, rfl⟩
    · exact .inl ⟨q, hpool, e⟩
    · exact .inr ⟨l, c, hc, e⟩
  · rintro (⟨q, hq, e⟩ | ⟨l, c, hc, e⟩)
    · exact ⟨q, (mem_liveRequests_iff s q).mpr (.inl hq), e⟩
    · exact ⟨c.request, (mem_liveRequests_iff s _).mpr (.inr ⟨l, c, hc, rfl⟩), e⟩

theorem idsAfter_eq_iterate (j : Nat) (i : RequestId) : idsAfter j i = idAfter^[j] i := by
  induction j generalizing i with
  | zero => rfl
  | succ j ih => exact ih (idAfter i)

theorem kindOf_code (kind : Kind) : kindOf kind.code = some kind := by cases kind <;> rfl

theorem kindOf_above {i : Nat} (h : 2 < i) : kindOf i = none := by
  obtain ⟨j, rfl⟩ : ∃ j, i = j + 3 := ⟨i - 3, by omega⟩
  rfl

/-- The bands of a record, by the kind and the mask's band part. -/
def bandsOf : Kind → Option BandPart → Nat
  | .measure, some y => y.bands.length
  | _, _ => 0

theorem bandsFor_eq (kind : Kind) (d : Mask) : bandsFor kind d = bandsOf kind d.band := by
  unfold bandsFor
  cases d.band <;> cases kind <;> rfl

section
variable {n : StationId} {s : State} {k : SocketId} {kind : Kind} {g number : Nat} {m : MaskId} {d : Mask}

theorem submitRefusal_notOwner (ho : (s.socket k).owner ≠ some n) : submitRefusal s n k g = some ⟨.notOwner, []⟩ := by
  simp [submitRefusal, State.owns, ho]

theorem submitRefusal_absent (ho : (s.socket k).owner = some n) (hp : (s.socket k).presence = .absent) :
    submitRefusal s n k g = some ⟨.absent, []⟩ := by
  simp [submitRefusal, State.owns, ho, hp]

theorem submitRefusal_stale (ho : (s.socket k).owner = some n) (hp : (s.socket k).presence = .present)
    (hg : g ≠ (s.socket k).loadGen.toNat) :
    submitRefusal s n k g = some ⟨.stale, bytes16 (s.socket k).loadGen.toNat⟩ := by
  simp [submitRefusal, State.owns, ho, hp, hg]

theorem submitRefusal_busy (ho : (s.socket k).owner = some n) (hp : (s.socket k).presence = .present)
    (hg : g = (s.socket k).loadGen.toNat) (he : (s.socket k).engagement ≠ .idle) :
    submitRefusal s n k g = some ⟨.busy, engagementPayload (s.socket k)⟩ := by
  simp [submitRefusal, State.owns, ho, hp, hg, he]

theorem submitRefusal_none (ho : (s.socket k).owner = some n) (hp : (s.socket k).presence = .present)
    (hg : g = (s.socket k).loadGen.toNat) (he : (s.socket k).engagement = .idle) : submitRefusal s n k g = none := by
  simp [submitRefusal, State.owns, ho, hp, hg, he]

theorem definedMask_above (h : 23 < number) : s.definedMask number = none := by
  simp only [State.definedMask, maskOf_above h]

theorem definedMask_empty (h : number = m.val) (hm : (s.mask m).contents = none) : s.definedMask number = none := by
  simp only [State.definedMask, h, maskOf_val, hm, Option.map_none]

theorem definedMask_named (h : number = m.val) (hm : (s.mask m).contents = some d) :
    s.definedMask number = some (m, d) := by
  simp only [State.definedMask, h, maskOf_val, hm, Option.map_some]

theorem submit_refused {a : Answer} (h : submitRefusal s n k g = some a) : submit s n k kind g number = (s, a) := by
  simp only [submit, h]

theorem submit_noMask (h : submitRefusal s n k g = none) (hm : s.definedMask number = none) :
    submit s n k kind g number = (s, ⟨.noSuch, []⟩) := by
  simp only [submit, h, hm, refuse]

theorem submit_notAdmitted (h : submitRefusal s n k g = none) (hm : s.definedMask number = some (m, d))
    (ha : d.admits kind = false) : submit s n k kind g number = (s, ⟨.range, []⟩) := by
  simp [submit, h, hm, ha, refuse]

theorem submit_full (h : submitRefusal s n k g = none) (hm : s.definedMask number = some (m, d))
    (ha : d.admits kind = true) (hf : s.poolFull n = true) : submit s n k kind g number = (s, ⟨.full, []⟩) := by
  simp [submit, h, hm, ha, hf, refuse]

theorem submit_accepted (h : submitRefusal s n k g = none) (hm : s.definedMask number = some (m, d))
    (ha : d.admits kind = true) (hf : s.poolFull n = false) : submit s n k kind g number =
      (acceptRequest s (requestFor s n k kind m d), ⟨.ok, submitPayload (requestFor s n k kind m d)⟩) := by
  simp [submit, h, hm, ha, hf]

theorem poolFull_iff : s.poolFull n = true ↔ 32 ≤ s.pool.requests.length ∨ 16 ≤ (s.pool.ofStation n).length := by
  rw [State.poolFull, Bool.or_eq_true, decide_eq_true_iff, decide_eq_true_iff]
  rfl

variable {b kd g0 g1 mk : Byte}

theorem exec_submit_range (h : s.takes n = true) (hb : 15 < b.toNat ∨ 2 < kd.toNat) :
    exec (.submit n [b, kd, g0, g1, mk]) s = .next (s.answerAt n ⟨.range, []⟩) := by
  refine fixedCommand_answers h rfl ?_
  rcases hb with hb | hk
  · rw [show socketOf (field8 [b, kd, g0, g1, mk] 0) = none from socketOf_above hb]
    rfl
  · rw [show kindOf (field8 [b, kd, g0, g1, mk] 1) = none from kindOf_above hk]
    cases socketOf (field8 [b, kd, g0, g1, mk] 0) <;> rfl

theorem exec_submit (h : s.takes n = true) (hb : b.toNat = k.val) (hk : kd.toNat = kind.code) {t : State} {a : Answer}
    (hs : submit s n k kind (g0.toNat + 256 * g1.toNat) mk.toNat = (t, a)) :
    exec (.submit n [b, kd, g0, g1, mk]) s = .next (t.answerAt n a) := by
  refine fixedCommand_answers h rfl ?_
  rw [show socketOf (field8 [b, kd, g0, g1, mk] 0) = some k from socketOf_byte hb,
    show kindOf (field8 [b, kd, g0, g1, mk] 1) = some kind from (congrArg kindOf hk).trans (kindOf_code kind)]
  exact hs

end

/-- Settles O42, by the checks in their order. -/
theorem submitChecksThenQueues : Obligations.SubmitChecksThenQueues := by
  unfold Obligations.SubmitChecksThenQueues
  refine ⟨live_by_place, fun s n due => ⟨fun j hj hfirst => ?next, fun w => ?within⟩,
    fun n b kd g0 g1 mk s h => ⟨exec_submit_range h, fun k kind hb hk => ⟨fun ho => ?notOwner, fun ho hp => ?absent,
      fun ho hp => ⟨fun hg => ?stale, fun r hg he hr => ?busy, fun hg he => ⟨fun hm => ?above, fun m hm =>
        ⟨fun hd => ?empty, fun d hd => ⟨fun hfits => ?kind, fun hfits => ⟨fun hfull => ?full, fun hpool hstation =>
          ?accepted⟩⟩⟩⟩⟩⟩⟩⟩
  case next =>
    obtain ⟨free, taken⟩ := hfirst
    refine (nextFreeId_first s n 17 j due (by omega) ?_ fun i hi => ?_).trans (idsAfter_eq_iterate j due)
    · rw [idsAfter_eq_iterate]; exact free
    · rw [idsAfter_eq_iterate]; exact taken i hi
  case within =>
    obtain ⟨j, hj, free, taken⟩ := exists_firstFreeId (workOfLaw w) n due
    rw [idsAfter_eq_iterate] at free
    exact ⟨j, by omega, free, fun i hi => by have := taken i hi; rwa [idsAfter_eq_iterate] at this⟩
  all_goals refine exec_submit h hb hk ?_
  case notOwner => exact submit_refused (submitRefusal_notOwner ho)
  case absent => exact submit_refused (submitRefusal_absent ho hp)
  case stale => exact submit_refused (submitRefusal_stale ho hp hg)
  case busy =>
    refine (submit_refused (submitRefusal_busy ho hp hg he)).trans ?_
    simp only [engagementPayload, hr]
    rfl
  all_goals have hpass := submitRefusal_none ho hp hg he
  case above => exact submit_noMask hpass (definedMask_above hm)
  case empty => exact submit_noMask hpass (definedMask_empty hm hd)
  all_goals have hmask := definedMask_named (number := mk.toNat) hm hd
  case kind => exact submit_notAdmitted hpass hmask (by cases kind <;> exact hfits)
  all_goals have hadmits : d.admits kind = true := by cases kind <;> exact hfits
  case full => exact submit_full hpass hmask hadmits (poolFull_iff.mpr hfull)
  case accepted =>
    have hroom : s.poolFull n = false := by
      rw [← Bool.not_eq_true, poolFull_iff]
      omega
    refine (submit_accepted hpass hmask hadmits hroom).trans ?_
    simp only [requestFor, bandRequest, bandsFor_eq]
    cases kind <;> cases d.band <;> rfl

/-! ## The pair a frequency has (R96, R99) -/

section
variable {s : State} {f : Nat} {p : PairId}

theorem Pair.readyAt_iff (x : Pair) : x.readyAt f = true ↔ x.state = .ready ∧ x.tuned = some f := by
  simp [Pair.readyAt]

theorem Pair.serves_iff (x : Pair) : x.serves f = true ↔ x.state ≠ .off ∧ x.state ≠ .fault ∧ x.tuned = some f := by
  simp [Pair.serves, and_assoc]

/-- Of the READY pairs at the frequency, the one with fewer attachments, P0 when they are alike. -/
theorem attachChoice_some (h : s.attachChoice f = some p) :
    (s.pair p).readyAt f = true ∧ ∀ j, (s.pair j).readyAt f = true → (s.pair p).attachments < (s.pair j).attachments ∨
      ((s.pair p).attachments = (s.pair j).attachments ∧ p ≤ j) := by
  have all : ∀ {P : PairId → Prop}, P 0 → P 1 → ∀ j, P j := fun h0 h1 j => by
    rcases pair_cases j with rfl | rfl
    · exact h0
    · exact h1
  unfold State.attachChoice at h
  cases h0 : (s.pair 0).readyAt f <;> cases h1 : (s.pair 1).readyAt f <;> simp only [h0, h1] at h
  case false.false => cases h
  case false.true =>
    cases h
    exact ⟨h1, all (fun h => by rw [h0] at h; cases h) fun _ => .inr ⟨rfl, le_refl _⟩⟩
  case true.false =>
    cases h
    exact ⟨h0, all (fun _ => .inr ⟨rfl, le_refl _⟩) fun h => by rw [h1] at h; cases h⟩
  case true.true =>
    split at h <;> cases h
    · exact ⟨h1, all (fun _ => .inl ‹_›) fun _ => .inr ⟨rfl, le_refl _⟩⟩
    · exact ⟨h0, all (fun _ => .inr ⟨rfl, le_refl _⟩) fun _ =>
        (Nat.lt_or_eq_of_le (Nat.le_of_not_lt ‹_›)).imp_right fun e => ⟨e, Fin.zero_le _⟩⟩

theorem attachChoice_none : s.attachChoice f = none ↔ ∀ p, (s.pair p).readyAt f = false := by
  unfold State.attachChoice
  rw [Fin.forall_fin_two]
  cases (s.pair 0).readyAt f <;> cases (s.pair 1).readyAt f <;> simp
  split <;> simp

/-- When no pair is READY there, the first that serves the frequency. -/
theorem servingPair_notReady (h : ∀ p, (s.pair p).readyAt f = false) :
    s.servingPair f = allPairs.find? fun p => (s.pair p).serves f := by
  rw [State.servingPair, attachChoice_none.mpr h]

theorem servingPair_ready (h : s.attachChoice f = some p) : s.servingPair f = some p := by
  rw [State.servingPair, h]

theorem Pair.serves_of_readyAt {x : Pair} (h : x.readyAt f = true) : x.serves f = true := by
  obtain ⟨hs, ht⟩ := x.readyAt_iff.mp h
  exact x.serves_iff.mpr ⟨by simp [hs], by simp [hs], ht⟩

end

/-! ## QUERY LANE (R131) -/

/-- The eight band bytes: the code of each band's state, 255 beyond the bands. -/
theorem bandStateBytes_eq (bands : List BandRun) :
    ((bands.map fun d : BandRun => BitVec.ofNat 8 d.state.code) ++ List.replicate 8 255).take 8 =
      (List.range 8).map fun i => (bands[i]?.map fun d : BandRun => BitVec.ofNat 8 d.state.code).getD (255 : Byte) := by
  apply List.ext_getElem?
  intro i
  rw [List.getElem?_take, List.getElem?_append, List.length_map, List.getElem?_map, List.getElem?_map,
    List.getElem?_replicate]
  by_cases hi : i < 8
  · rw [if_pos hi, List.getElem?_range hi]
    by_cases hb : i < bands.length
    · simp [hb]
    · simp [hb, show i - bands.length < 8 by omega]
  · simp [hi]

theorem activeBytes_some (now : Nat) (c : RunContext) : activeBytes now (some c) =
    [BitVec.ofNat 8 c.request.station.val] ++ bytes16 c.request.id.toNat ++
    [BitVec.ofNat 8 c.request.kind.code, BitVec.ofNat 8 c.stage.code] ++ bytes16 c.counted ++
    [BitVec.ofNat 8 c.rounds, BitVec.ofNat 8 c.retries] ++ bytes16 (c.seconds now) ++
    [BitVec.ofNat 8 (pairCode 255 c.pair), BitVec.ofNat 8 c.fails.bits, BitVec.ofNat 8 c.disturbances.bits,
     BitVec.ofNat 8 c.bands.length] ++
    (List.range 8).map fun i => (c.bands[i]?.map fun d : BandRun => BitVec.ofNat 8 d.state.code).getD 255 := by
  rw [activeBytes, bandStateBytes_eq]
  rfl

theorem activeBytes_length (now : Nat) (x : Option RunContext) : (activeBytes now x).length = 23 := by
  cases x with
  | none => rfl
  | some c => rw [activeBytes_some]; rfl

theorem slotBytes_length (now : Nat) (x : Option RunContext) : (slotBytes now x).length = 9 := by cases x <;> rfl

theorem lanePayload_parts (s : State) (l : LaneId) : lanePayload s l =
    [BitVec.ofNat 8 l.val, BitVec.ofNat 8 (s.lane l).state.code,
     BitVec.ofNat 8 (bitsOf [(s.lane l).holdQuiet, (s.lane l).holdPair]), BitVec.ofNat 8 (s.lane l).pending.code,
     BitVec.ofNat 8 (numberOr 255 (s.lane l).connected)] ++ activeBytes s.now (s.lane l).active ++
    slotBytes s.now (s.lane l).slot ++
    (bytes8 ((s.lane l).mark.elim 255 fun r => r.station.val) ++ bytes16 ((s.lane l).mark.elim 65535 fun r => r.id.toNat)) := by
  rw [lanePayload]
  cases (s.lane l).mark <;> simp only [List.append_assoc] <;> rfl

theorem lanePayload_length (s : State) (l : LaneId) : (lanePayload s l).length = 40 := by
  rw [lanePayload_parts, List.length_append, List.length_append, List.length_append, activeBytes_length, slotBytes_length]
  rfl

/-! ## QUERY REQUEST (R96) -/

section
variable {n j : StationId} {s : State} {b lo hi : Byte}

theorem stationOf_byte (h : b.toNat = j.val) : stationOf b.toNat = some j := h ▸ stationOf_val j

theorem laneOf_byte {l : LaneId} (h : b.toNat = l.val) : laneOf b.toNat = some l := h ▸ laneOf_val l

theorem exec_queryRequest_range (h : s.takes n = true) (hb : 3 < b.toNat) :
    exec (.queryRequest n [b, lo, hi]) s = .next (s.answerAt n ⟨.range, []⟩) := by
  refine fixedCommand_answers h rfl ?_
  rw [show stationOf (field8 [b, lo, hi] 0) = none from stationOf_above hb]
  rfl

theorem exec_queryRequest_none (h : s.takes n = true) (hb : b.toNat = j.val) (hp : s.place ⟨j, hi ++ lo⟩ = none) :
    exec (.queryRequest n [b, lo, hi]) s = .next (s.answerAt n ⟨.noSuch, []⟩) := by
  refine fixedCommand_answers h rfl ?_
  rw [show stationOf (field8 [b, lo, hi] 0) = some j from stationOf_byte hb]
  simp only [show BitVec.ofNat 16 (field16 [b, lo, hi] 1) = hi ++ lo from requestId_eq lo hi, hp, refuse]

theorem exec_queryRequest_some (h : s.takes n = true) (hb : b.toNat = j.val) {x : Place}
    (hp : s.place ⟨j, hi ++ lo⟩ = some x) {a : Answer} (ha : ⟨.ok, placePayload s x⟩ = a) :
    exec (.queryRequest n [b, lo, hi]) s = .next (s.answerAt n a) := by
  refine fixedCommand_answers h rfl ?_
  rw [show stationOf (field8 [b, lo, hi] 0) = some j from stationOf_byte hb]
  simp only [show BitVec.ofNat 16 (field16 [b, lo, hi] 1) = hi ++ lo from requestId_eq lo hi, hp, ha]

/-- The bytes of a request that the caller names: station, id, place, and the pool entry's fields. -/
theorem requestBytes_named (hb : b.toNat = j.val) {q : Request} (hq : q.ref = ⟨j, hi ++ lo⟩) (x : Place) :
    requestBytes q x = [b, lo, hi, BitVec.ofNat 8 x.code, BitVec.ofNat 8 q.kind.code, BitVec.ofNat 8 q.socket.val] ++
      bytes16 q.loadGen.toNat ++ [BitVec.ofNat 8 q.mask.val] ++ bytes32 q.seq.toNat := by
  obtain ⟨hstation, hid⟩ := (ref_eq_iff q).mp hq
  rw [requestBytes, hstation, hid, bytes8_eq hb, bytes16_requestId]
  rfl

theorem retunedFor_iff {r : RequestRef} {x : Option PairId} :
    s.retunedFor r x = true ↔ ∃ p, x = some p ∧ s.retune[p] = some r := by
  cases x <;> simp [State.retunedFor]

theorem retunedByte_eq (r : RequestRef) (x : Option PairId) [Decidable (∃ p, x = some p ∧ s.retune[p] = some r)] :
    BitVec.ofNat 8 (s.retunedFor r x).toNat = if ∃ p, x = some p ∧ s.retune[p] = some r then 1 else 0 := by
  split
  next h => rw [retunedFor_iff.mpr h]; rfl
  next h => rw [(Bool.not_eq_true _).mp fun e => h (retunedFor_iff.mp e)]; rfl

/-- The pair that serves a band request's frequency. -/
theorem wants_serving (s : State) (q : Request) : (s.wants q).bind s.servingPair =
    if q.band then (s.maskFor q).bind fun m => s.servingPair m.nominal else none := by
  rw [State.wants]
  split
  · rw [Option.bind_map]; rfl
  · rfl

theorem olderThan_eq (s : State) (q : Request) : s.olderThan q = s.pool.requests.countP fun x =>
    decide (x.kind = .measure ↔ q.kind = .measure) && decide (s.pool.age q < s.pool.age x) := by
  have hclass : ∀ x y : Kind, x.requestClass = y.requestClass ↔ (x = .measure ↔ y = .measure) := fun x y => by
    cases x <;> cases y <;> decide
  rw [State.olderThan, ← List.countP_eq_length_filter]
  exact List.countP_congr fun x _ => by simp only [Request.requestClass, hclass]

end

/-- Settles O44, by what the bytes name: a lane's entry, or the place of a request. -/
theorem queriesOfRequestsAndLanes : Obligations.QueriesOfRequestsAndLanes := by
  unfold Obligations.QueriesOfRequestsAndLanes
  refine ⟨fun k => by cases k <;> rfl, fun s f => ⟨fun p h => ?serving, fun h p hp => ?unserved⟩, olderThan_eq,
    fun n b lo hi s h => ⟨fun hb => ⟨exec_queryRequest_range h hb, ?laneRange⟩, fun j hb => ⟨⟨?lane, lanePayload_length s j⟩,
      ?laneBytes, fun hl => exec_queryRequest_none h hb (place_none hl), fun q hq => ⟨rfl, ?pool⟩,
      fun l c hq hc => ⟨rfl, ?run⟩⟩⟩⟩
  case serving =>
    cases hchoice : s.attachChoice f with
    | some i =>
      obtain rfl : i = p := Option.some.inj ((servingPair_ready hchoice).symm.trans h)
      obtain ⟨hready, hbest⟩ := attachChoice_some hchoice
      have hi := (Pair.readyAt_iff _).mp hready
      exact ⟨(Pair.serves_iff _).mp (Pair.serves_of_readyAt hready),
        fun _ => ⟨hi, fun j hj => hbest j ((Pair.readyAt_iff _).mpr hj)⟩, fun hnone => absurd hi (hnone i)⟩
    | none =>
      have hnone := attachChoice_none.mp hchoice
      rw [servingPair_notReady hnone] at h
      refine ⟨(Pair.serves_iff _).mp (List.find?_some (p := fun p => (s.pair p).serves f) h), fun ⟨j, hj⟩ => ?_,
        fun _ j hj => ?_⟩
      · exact absurd ((Pair.readyAt_iff _).mpr hj) (by rw [hnone j]; exact Bool.false_ne_true)
      · rcases pair_cases j with rfl | rfl
        · have hfirst : allPairs.find? (fun p => (s.pair p).serves f) = some 0 :=
            List.find?_cons_of_pos ((Pair.serves_iff _).mpr hj)
          exact (Option.some.inj (h.symm.trans hfirst)).le
        · exact Fin.le_last p
  case unserved =>
    cases hchoice : s.attachChoice f with
    | some i => rw [servingPair_ready hchoice] at h; cases h
    | none =>
      rw [servingPair_notReady (attachChoice_none.mp hchoice)] at h
      exact List.find?_eq_none.mp h p (mem_allPairs p) ((Pair.serves_iff _).mpr hp)
  case laneRange =>
    refine fixedCommand_answers h rfl ?_
    rw [show laneOf (field8 [b] 0) = none from laneOf_above hb]
    rfl
  case lane =>
    refine fixedCommand_answers h rfl ?_
    rw [show laneOf (field8 [b] 0) = some j from laneOf_byte hb]
  case laneBytes =>
    rw [lanePayload_parts]
    refine congrArg₂ (· ++ ·) (congrArg₂ (· ++ ·) (congrArg₂ (· ++ ·) ?head ?active) ?slot) ?mark
    case head =>
      rw [byte_eq hb]
      refine congrArg₂ List.cons rfl (congrArg₂ List.cons ?_ (congrArg₂ List.cons rfl (congrArg₂ List.cons ?_
        (congrArg₂ List.cons ?_ rfl))))
      · cases (s.lane j).state <;> rfl
      · cases (s.lane j).pending <;> rfl
      · cases (s.lane j).connected <;> rfl
    case active =>
      cases (s.lane j).active with
      | none => rfl
      | some c =>
        rw [activeBytes_some]
        refine congrArg₂ (· ++ ·) (congrArg₂ (· ++ ·) (congrArg₂ (· ++ ·) (congrArg₂ (· ++ ·) (congrArg₂ (· ++ ·)
          (congrArg₂ (· ++ ·) rfl ?codes) rfl) rfl) ?seconds) ?outcome) ?bands
        case codes =>
          refine congrArg₂ List.cons ?_ (congrArg₂ List.cons ?_ rfl)
          · cases c.request.kind <;> rfl
          · cases c.stage <;> rfl
        case seconds => rfl
        case outcome => exact congrArg₂ List.cons (by cases c.pair <;> rfl) rfl
        case bands =>
          refine List.map_congr_left fun i _ => ?_
          cases c.bands[i]? with
          | none => rfl
          | some d => cases hd : d.state <;> simp only [Option.map_some, Option.getD_some, hd] <;> rfl
    case slot => cases (s.lane j).slot <;> rfl
    case mark => cases (s.lane j).mark <;> rfl
  case pool =>
    refine exec_queryRequest_some h hb (place_pool hq) ?_
    rw [placePayload, requestBytes_named hb (queued_ref hq), poolBytes, bytes8, bytes8, bytes8, bytes8, retunedByte_eq,
      wants_serving]
    rfl
  case run =>
    rcases hc with ⟨hl, hc⟩ | ⟨hr, hl, hc⟩
    · refine exec_queryRequest_some h hb (place_lane hq hl) ?_
      obtain ⟨d, hd, href⟩ := laneRunning_active hl
      obtain rfl : d = c := Option.some.inj (hd.symm.trans hc)
      simp only [placePayload, hc, hl, requestBytes_named hb href, runBytes, bytes8, retunedByte_eq]
      rfl
    · refine exec_queryRequest_some h hb (place_slot hq hr hl) ?_
      obtain ⟨d, hd, href⟩ := laneHolding_slot hl
      obtain rfl : d = c := Option.some.inj (hd.symm.trans hc)
      simp only [placePayload, hc, hr, requestBytes_named hb href, runBytes, bytes8, retunedByte_eq]
      rfl

end Sys2Proof.Machine
end

section
/-!
PROOFS. The pair planner and TUNE PAIR (04_reference_pairs_and_the_management_link.md, R81 to R83;
05_request_pool_dispatch_and_the_pair_planner.md, R103 to R105): O35.
-/
namespace Sys2Proof.Machine

/-! ## The oldest of a list (R87) -/

theorem oldest_none_iff (p : Pool) (qs : List Request) : p.oldest qs = none ↔ qs = [] := by
  cases qs with
  | nil => simp [Pool.oldest]
  | cons q rest =>
    rw [Pool.oldest]
    split
    · simp
    · split <;> simp

theorem oldest_oldest {p : Pool} {qs : List Request} {x : Request} (h : p.oldest qs = some x) :
    ∀ q ∈ qs, p.age q ≤ p.age x := by
  induction qs generalizing x with
  | nil => simp
  | cons a rest ih =>
    rw [Pool.oldest] at h
    split at h
    next hrest =>
      cases h
      rw [(oldest_none_iff p rest).mp hrest]
      simp
    next y hrest =>
      intro q hq
      have hy := ih hrest
      split at h <;> cases h <;> rcases List.mem_cons.mp hq with rfl | hq
      · exact Nat.le_of_lt ‹_›
      · exact hy q hq
      · exact le_refl _
      · exact (hy q hq).trans (Nat.le_of_not_lt ‹_›)

theorem oldest_filter_none {p : Pool} {qs : List Request} {f : Request → Bool} (h : p.oldest (qs.filter f) = none) :
    ∀ q ∈ qs, ¬ f q = true := List.filter_eq_nil_iff.mp ((oldest_none_iff p _).mp h)

theorem oldest_filter_some {p : Pool} {qs : List Request} {f : Request → Bool} {x : Request}
    (h : p.oldest (qs.filter f) = some x) : x ∈ qs ∧ f x = true ∧ ∀ q ∈ qs, f q = true → p.age q ≤ p.age x := by
  obtain ⟨hx, hf⟩ := List.mem_filter.mp (oldest_mem p _ h)
  exact ⟨hx, hf, fun q hq hfq => oldest_oldest h q (List.mem_filter.mpr ⟨hq, hfq⟩)⟩

/-! ## What the planner looks for (R103) -/

/-- The request wants a frequency that is not yet taken and that no pair serves. -/
def State.opens (s : State) (taken : List Nat) (q : Request) : Prop :=
  ∃ f, s.wants q = some f ∧ f ∉ taken ∧ ∀ p, (s.pair p).serves f = false

section
variable {s : State} {taken : List Nat} {f : Nat} {p : PairId}

theorem wants_iff (s : State) (q : Request) (f : Nat) :
    s.wants q = some f ↔ q.band = true ∧ ∃ m, (s.mask q.mask).contents = some m ∧ m.nominal = f := by
  unfold State.wants State.maskFor
  split <;> simp_all

theorem Pair.serves_false_iff (x : Pair) (f : Nat) :
    x.serves f = false ↔ x.state = .off ∨ x.state = .fault ∨ x.tuned ≠ some f := by
  rw [← Bool.not_eq_true, Pair.serves_iff]
  tauto

theorem opens_iff (s : State) (taken : List Nat) (q : Request) : s.opens taken q ↔
    ∃ f, (q.band = true ∧ ∃ m, (s.mask q.mask).contents = some m ∧ m.nominal = f) ∧ f ∉ taken ∧
      ∀ p, (s.pair p).state = .off ∨ (s.pair p).state = .fault ∨ (s.pair p).tuned ≠ some f := by
  simp only [State.opens, wants_iff, Pair.serves_false_iff]

theorem unserved_iff (s : State) (f : Nat) : s.unserved f = true ↔ ∀ p, (s.pair p).serves f = false := by
  simp [State.unserved, allPairs, Fin.forall_fin_two]

theorem nextUnserved_none (h : s.nextUnserved taken = none) : ∀ q ∈ s.pool.requests, ¬ s.opens taken q := by
  rintro q hq ⟨f, hw, ht, hu⟩
  refine oldest_filter_none h q hq ?_
  simp [hw, ht, (unserved_iff s f).mpr hu]

theorem nextUnserved_some {x : Request} (h : s.nextUnserved taken = some x) : x ∈ s.pool.requests ∧ s.opens taken x ∧
    ∀ q ∈ s.pool.requests, s.opens taken q → s.pool.age q ≤ s.pool.age x := by
  obtain ⟨hx, hopen, hage⟩ := oldest_filter_some h
  refine ⟨hx, ?_, ?_⟩
  · cases hw : s.wants x with
    | none => simp [hw] at hopen
    | some f =>
      simp only [hw, Bool.and_eq_true, unserved_iff, Bool.not_eq_true', List.contains_eq_mem, decide_eq_false_iff_not] at hopen
      exact ⟨f, hw, hopen.2, hopen.1⟩
  · rintro q hq ⟨f, hw, ht, hu⟩
    refine hage q hq ?_
    simp [hw, ht, (unserved_iff s f).mpr hu]

theorem oldestWanting_none (h : s.oldestWanting f = none) : ∀ q ∈ s.pool.requests, ¬ s.wants q = some f := fun q hq hw =>
  oldest_filter_none h q hq (decide_eq_true hw)

theorem oldestWanting_some {x : Request} (h : s.oldestWanting f = some x) : x ∈ s.pool.requests ∧ s.wants x = some f ∧
    ∀ q ∈ s.pool.requests, s.wants q = some f → s.pool.age q ≤ s.pool.age x := by
  obtain ⟨hx, hw, hage⟩ := oldest_filter_some h
  exact ⟨hx, of_decide_eq_true hw, fun q hq hq' => hage q hq (decide_eq_true hq')⟩

/-! ## Tuning leaves the pool and the other figures -/

/-- The link's grant takes a transaction from one queue and makes it current, or does nothing. -/
theorem linkGrant_cases (s : State) : linkGrant s = s ∨
    ∃ p rest l, linkGrant s = (s.modPair p fun x => { x with queue := rest }).modLink l := by
  unfold linkGrant
  split
  · exact .inl rfl
  · split
    · exact .inl rfl
    · unfold grantTo
      split
      · exact .inl rfl
      · exact .inr ⟨_, _, _, rfl⟩

theorem linkGrant_pair (s : State) (p : PairId) : ∃ rest, (linkGrant s).pair p = { s.pair p with queue := rest } := by
  rcases linkGrant_cases s with h | ⟨j, rest, l, h⟩
  · exact ⟨(s.pair p).queue, by rw [h]⟩
  · rw [h]
    by_cases e : p = j
    · subst e; exact ⟨rest, by simp⟩
    · exact ⟨(s.pair p).queue, by simp [e]⟩

theorem linkGrant_pool (s : State) : (linkGrant s).pool = s.pool := by
  rcases linkGrant_cases s with h | ⟨j, rest, l, h⟩
  · rw [h]
  · rw [h]; rfl

theorem linkGrant_masks (s : State) : (linkGrant s).masks = s.masks := by
  rcases linkGrant_cases s with h | ⟨j, rest, l, h⟩
  · rw [h]
  · rw [h]; rfl

theorem plannerTune_pool (x : Request) : (plannerTune s p f x).pool = s.pool := linkGrant_pool _

theorem plannerTune_wants (x q : Request) : (plannerTune s p f x).wants q = s.wants q := by
  have h : (plannerTune s p f x).masks = s.masks := linkGrant_masks _
  simp only [State.wants, State.maskFor, State.mask, h]

/-! ## The turns of a pass (R103) -/

theorem plannerLoop_done {k : Nat} (h : s.nextUnserved taken = none) : plannerLoop k taken s = s := by
  cases k with
  | zero => rfl
  | succ k => simp only [plannerLoop, h]

theorem plannerLoop_skip {k : Nat} {x : Request} (h : s.nextUnserved taken = some x) (hw : s.wants x = some f)
    (hc : s.planChoice x = none) : plannerLoop (k + 1) taken s = plannerLoop k (f :: taken) s := by
  simp only [plannerLoop, h, hw, hc]

theorem plannerLoop_tune {k : Nat} {x : Request} (h : s.nextUnserved taken = some x) (hw : s.wants x = some f)
    (hc : s.planChoice x = some p) :
    plannerLoop (k + 1) taken s = plannerLoop k (f :: taken) (plannerTune s p f x) := by
  simp only [plannerLoop, h, hw, hc]

/-- The requests of the pool whose frequency is not yet taken: they bound the turns of a pass. -/
def State.untaken (s : State) (taken : List Nat) : List Request :=
  s.pool.requests.filter fun q => (s.wants q).any fun f => decide (f ∉ taken)

theorem mem_untaken {q : Request} :
    q ∈ s.untaken taken ↔ q ∈ s.pool.requests ∧ ∃ f, s.wants q = some f ∧ f ∉ taken := by
  simp [State.untaken, Option.any_eq_true]

theorem untaken_length_le (s : State) (taken : List Nat) : (s.untaken taken).length ≤ s.pool.requests.length :=
  List.length_filter_le _ _

theorem untaken_cons (s : State) (taken : List Nat) (f : Nat) :
    s.untaken (f :: taken) = (s.untaken taken).filter fun q => decide (s.wants q ≠ some f) := by
  rw [State.untaken, State.untaken, List.filter_filter]
  refine List.filter_congr fun q _ => ?_
  cases s.wants q <;> simp

/-- Taking a frequency that a request of the pool wants leaves fewer. -/
theorem untaken_cons_lt {x : Request} (hx : x ∈ s.pool.requests) (hw : s.wants x = some f) (hf : f ∉ taken) :
    (s.untaken (f :: taken)).length < (s.untaken taken).length := by
  rw [untaken_cons, List.length_filter_lt_length_iff_exists]
  exact ⟨x, mem_untaken.mpr ⟨hx, f, hw, hf⟩, by simp [hw]⟩

theorem plannerTune_untaken (x : Request) : (plannerTune s p f x).untaken taken = s.untaken taken := by
  simp only [State.untaken, plannerTune_pool, plannerTune_wants]

/-- A pass is over when no untaken request is left. -/
theorem nextUnserved_of_untaken (h : (s.untaken taken).length = 0) : s.nextUnserved taken = none := by
  cases hn : s.nextUnserved taken with
  | none => rfl
  | some x =>
    obtain ⟨hx, ⟨f, hw, hf, _⟩, _⟩ := nextUnserved_some hn
    have hmem : x ∈ s.untaken taken := mem_untaken.mpr ⟨hx, f, hw, hf⟩
    rw [List.length_eq_zero_iff.mp h] at hmem
    cases hmem

/-- More turns than untaken requests change nothing. -/
theorem plannerLoop_enough {m : Nat} (h : (s.untaken taken).length ≤ m) (k : Nat) :
    plannerLoop (m + k) taken s = plannerLoop m taken s := by
  induction m generalizing s taken with
  | zero =>
    have hdone := nextUnserved_of_untaken (Nat.le_zero.mp h)
    rw [plannerLoop_done hdone, plannerLoop_done hdone]
  | succ m ih =>
    cases hn : s.nextUnserved taken with
    | none => rw [plannerLoop_done hn, plannerLoop_done hn]
    | some x =>
      obtain ⟨hx, ⟨f, hw, hf, _⟩, _⟩ := nextUnserved_some hn
      have hfewer := untaken_cons_lt hx hw hf
      rw [Nat.succ_add]
      cases hc : s.planChoice x with
      | none => rw [plannerLoop_skip hn hw hc, plannerLoop_skip hn hw hc, ih (by omega)]
      | some p =>
        rw [plannerLoop_tune hn hw hc, plannerLoop_tune hn hw hc, ih (by rw [plannerTune_untaken]; omega)]

theorem plannerPass_eq (s : State) (k : Nat) : plannerPass s = plannerLoop (s.pool.requests.length + k) [] s :=
  (plannerLoop_enough (untaken_length_le s []) k).symm

end

/-! ## The choice of a free pair (R104) -/

/-- The pair has no attachment and is in this state, OFF or READY: it is free. -/
theorem isFree_and_iff (x : Pair) {z : PairState} (h : z = .off ∨ z = .ready) :
    (x.isFree && decide (x.state = z)) = (decide (x.attachments = 0) && decide (x.state = z)) := by
  unfold Pair.isFree
  rcases h with rfl | rfl <;> cases x.state <;> simp

theorem find?_allPairs (f : PairId → Bool) :
    allPairs.find? f = if f 0 then some 0 else if f 1 then some 1 else none := by
  cases h0 : f 0 <;> cases h1 : f 1 <;> simp [allPairs, h0, h1]

/-- The pair has no attachment and is in the state. -/
def State.freeIn (s : State) (p : PairId) (z : PairState) : Bool :=
  decide ((s.pair p).attachments = 0) && decide ((s.pair p).state = z)

/-- The oldest request that wants the pair's frequency. -/
def State.claimOn (s : State) (p : PairId) : Option Request := (s.pair p).tuned.bind s.oldestWanting

theorem freeReady_eq (s : State) (p : PairId) :
    s.freeReady p = if s.freeIn p .ready = true then (s.pair p).tuned else none := by
  rw [State.freeReady, isFree_and_iff _ (.inr rfl)]
  rfl

theorem offPair_eq (s : State) :
    s.offPair = if s.freeIn 0 .off then some 0 else if s.freeIn 1 .off then some 1 else none := by
  rw [State.offPair, find?_allPairs, isFree_and_iff _ (.inl rfl), isFree_and_iff _ (.inl rfl)]
  rfl

theorem unwantedPair_eq (s : State) : s.unwantedPair =
    if s.freeIn 0 .ready && (s.pair 0).tuned.isSome && (s.claimOn 0).isNone then some 0
    else if s.freeIn 1 .ready && (s.pair 1).tuned.isSome && (s.claimOn 1).isNone then some 1 else none := by
  rw [← find?_allPairs fun p => s.freeIn p .ready && (s.pair p).tuned.isSome && (s.claimOn p).isNone]
  refine congrArg (fun f => allPairs.find? f) (funext fun p => ?_)
  simp only [freeReady_eq, State.claimOn]
  cases s.freeIn p .ready <;> cases (s.pair p).tuned <;> simp

/-- The pair is free and READY, and the oldest request that wants its frequency is younger than x. -/
def State.youngerOn (s : State) (x : Request) (p : PairId) : Bool :=
  s.freeIn p .ready && (s.claimOn p).any fun y => decide (s.pool.age y < s.pool.age x)

theorem youngerClaim_none {s : State} {x : Request} {p : PairId} (h : s.youngerOn x p = false) :
    s.youngerClaim x p = none := by
  rw [State.youngerClaim, freeReady_eq]
  by_cases hf : s.freeIn p .ready = true
  · rw [if_pos hf]
    cases ht : (s.pair p).tuned with
    | none => rfl
    | some g => cases ho : s.oldestWanting g <;> simp_all [State.youngerOn, State.claimOn]
  · rw [if_neg hf]

theorem youngerClaim_some {s : State} {x : Request} {p : PairId} (h : s.youngerOn x p = true) :
    s.youngerClaim x p = some (((s.claimOn p).map s.pool.age).getD 0) := by
  rw [State.youngerOn, Bool.and_eq_true] at h
  obtain ⟨hf, hy⟩ := h
  rw [State.youngerClaim, freeReady_eq, if_pos hf]
  cases ht : (s.pair p).tuned with
  | none => simp [State.claimOn, ht] at hy
  | some g => cases ho : s.oldestWanting g <;> simp_all [State.claimOn]

theorem youngerPair_eq (s : State) (x : Request) : s.youngerPair x =
    if s.youngerOn x 0 && s.youngerOn x 1 then
      (if ((s.claimOn 1).map s.pool.age).getD 0 < ((s.claimOn 0).map s.pool.age).getD 0 then some 1 else some 0)
    else if s.youngerOn x 0 then some 0 else if s.youngerOn x 1 then some 1 else none := by
  rw [State.youngerPair]
  cases h0 : s.youngerOn x 0 <;> cases h1 : s.youngerOn x 1 <;>
    simp [h0, h1, youngerClaim_none, youngerClaim_some]

theorem ite_some_or {α : Type} {c : Prop} [Decidable c] (a : α) (o u : Option α) :
    (if c then some a else o).or u = if c then some a else o.or u := by split <;> rfl

theorem planChoice_lines (s : State) (x : Request) :
    s.planChoice x = (s.offPair.or s.unwantedPair).or (s.youngerPair x) := by
  unfold State.planChoice
  cases s.offPair <;> cases s.unwantedPair <;> rfl

theorem planChoice_eq (s : State) (x : Request) :
    s.planChoice x =
      if s.freeIn 0 .off then some 0 else if s.freeIn 1 .off then some 1
      else if s.freeIn 0 .ready && (s.pair 0).tuned.isSome && (s.claimOn 0).isNone then some 0
      else if s.freeIn 1 .ready && (s.pair 1).tuned.isSome && (s.claimOn 1).isNone then some 1
      else if s.youngerOn x 0 && s.youngerOn x 1 then
        (if ((s.claimOn 1).map s.pool.age).getD 0 < ((s.claimOn 0).map s.pool.age).getD 0 then some 1 else some 0)
      else if s.youngerOn x 0 then some 0 else if s.youngerOn x 1 then some 1 else none := by
  rw [planChoice_lines, offPair_eq, unwantedPair_eq, ← youngerPair_eq]
  simp only [ite_some_or, Option.none_or]

theorem isFree_of_freeIn {s : State} {p : PairId} {z : PairState} (hz : z = .off ∨ z = .ready)
    (h : s.freeIn p z = true) : (s.pair p).isFree = true := by
  have hfree := isFree_and_iff (s.pair p) hz
  rw [State.freeIn] at h
  exact (Bool.and_eq_true _ _ ▸ hfree.trans h).1

/-- The planner takes free pairs only. -/
theorem planChoice_free {s : State} {x : Request} {p : PairId} (h : s.planChoice x = some p) :
    (s.pair p).isFree = true := by
  rw [planChoice_eq] at h
  simp only [State.youngerOn, Bool.and_eq_true] at h
  split_ifs at h with h0 h1 h2 h3 h4 h5 h6 h7 <;> cases h
  · exact isFree_of_freeIn (.inl rfl) h0
  · exact isFree_of_freeIn (.inl rfl) h1
  · exact isFree_of_freeIn (.inr rfl) h2.1.1
  · exact isFree_of_freeIn (.inr rfl) h3.1.1
  · exact isFree_of_freeIn (.inr rfl) h4.2.1
  · exact isFree_of_freeIn (.inr rfl) h4.1.1
  · exact isFree_of_freeIn (.inr rfl) h6.1
  · exact isFree_of_freeIn (.inr rfl) h7.1

/-! ## TUNE PAIR (R83) -/

section
variable {s : State} {p : PairId} {f : Nat}

theorem acceptTuning_pair (s : State) (p j : PairId) (f : Nat) :
    ∃ rest, (acceptTuning s p f).pair j = { (s.modPair p (Pair.tune p f)).pair j with queue := rest } := linkGrant_pair _ j

/-- A planner pass changes nothing but the queue of a pair that is not free. -/
theorem plannerLoop_pair {k : Nat} {taken : List Nat} (h : (s.pair p).isFree = false) :
    ∃ rest, (plannerLoop k taken s).pair p = { s.pair p with queue := rest } := by
  induction k generalizing s taken with
  | zero => exact ⟨_, rfl⟩
  | succ k ih =>
    cases hn : s.nextUnserved taken with
    | none => rw [plannerLoop_done hn]; exact ⟨_, rfl⟩
    | some x =>
      obtain ⟨_, ⟨f, hw, _⟩, _⟩ := nextUnserved_some hn
      cases hc : s.planChoice x with
      | none => rw [plannerLoop_skip hn hw hc]; exact ih h
      | some j =>
        have hj : p ≠ j := fun e => by rw [e, planChoice_free hc] at h; cases h
        obtain ⟨rest, htune⟩ := acceptTuning_pair (s.setRetune j (some x.ref)) j p f
        rw [modPair_pair, if_neg hj] at htune
        have htuned : (plannerTune s j f x).pair p = { s.pair p with queue := rest } := htune
        obtain ⟨rest', hloop⟩ := ih (s := plannerTune s j f x) (taken := f :: taken) (by rw [htuned]; exact h)
        exact ⟨rest', by rw [plannerLoop_tune hn hw hc, hloop, htuned]⟩

/-- The answer's figures are those of the pair as it was tuned, also after a planner pass. -/
theorem stationTune_pair (s : State) (p : PairId) (f : Nat) :
    ∃ rest, (stationTune s p f).pair p = { (s.pair p).tune p f with queue := rest } := by
  obtain ⟨rest, htune⟩ := acceptTuning_pair (s.setRetune p none) p p f
  rw [modPair_pair, if_pos rfl] at htune
  unfold stationTune
  dsimp only
  split
  · obtain ⟨rest', hpass⟩ := plannerLoop_pair (s := acceptTuning (s.setRetune p none) p f) (p := p)
      (k := (acceptTuning (s.setRetune p none) p f).pool.requests.length) (taken := [])
      (by rw [htune]; simp [Pair.isFree, Pair.tune, Pair.program])
    exact ⟨rest', hpass.trans (by rw [htune]; rfl)⟩
  · exact ⟨rest, htune⟩

theorem Pair.busy_iff (x : Pair) : x.busy = true ↔ 0 < x.attachments ∨ x.state ∉ [PairState.off, .ready, .fault] := by
  rw [Pair.busy, Bool.or_eq_true, decide_eq_true_iff]
  refine or_congr_right ?_
  cases x.state <;> simp [PairState.transient]

variable {n : StationId} {b f0 f1 f2 f3 : Byte}

theorem exec_tunePair (h : s.takes n = true) (hp : b.toNat = p.val) {t : State} {a : Answer}
    (ht : tunePair s p (f0.toNat + 256 * f1.toNat + 65536 * (f2.toNat + 256 * f3.toNat)) = (t, a)) :
    exec (.tunePair n [b, f0, f1, f2, f3]) s = .next (t.answerAt n a) := by
  refine fixedCommand_answers h rfl ?_
  rw [show pairOf (field8 [b, f0, f1, f2, f3] 0) = some p from pairOf_byte hp]
  exact ht

end

/-- Settles O35, by the turns of a planner pass and the checks of TUNE PAIR in their order. -/
theorem tunePairStartsATuning : Obligations.TunePairStartsATuning := by
  unfold Obligations.TunePairStartsATuning
  refine ⟨fun s taken => ⟨fun h => ?none, fun ⟨q, hq, hopen⟩ => ?some, fun x hx => ?oldest, fun f => ⟨fun x hx => ?wanting,
    fun h q hq hw => ?unwanted⟩, planChoice_eq s, fun k h => plannerLoop_done h, fun k x f hx hw => ⟨fun hc => ?skip,
    fun p hc => ?tune⟩, plannerPass_eq s⟩,
    fun n b f0 f1 f2 f3 s h => ⟨fun hrange => ?range, fun p hp hlow hhigh => ⟨fun hbusy => ?busy, fun ha hz =>
      ⟨rfl, ?accept⟩⟩⟩⟩
  case none =>
    cases hn : s.nextUnserved taken with
    | none => rfl
    | some x =>
      obtain ⟨hx, hopen, _⟩ := nextUnserved_some hn
      exact absurd ((opens_iff s taken x).mp hopen) (h x hx)
  case some =>
    cases hn : s.nextUnserved taken with
    | none => exact absurd ((opens_iff s taken q).mpr hopen) (nextUnserved_none hn q hq)
    | some x => exact ⟨x, rfl⟩
  case oldest =>
    obtain ⟨hmem, hopen, hage⟩ := nextUnserved_some hx
    exact ⟨hmem, (opens_iff s taken x).mp hopen, fun q hq hq' => hage q hq ((opens_iff s taken q).mpr hq')⟩
  case wanting =>
    obtain ⟨hmem, hw, hage⟩ := oldestWanting_some hx
    exact ⟨hmem, (wants_iff s x f).mp hw, fun q hq hq' => hage q hq ((wants_iff s q f).mpr hq')⟩
  case unwanted => exact oldestWanting_none h q hq ((wants_iff s q f).mpr hw)
  case skip => exact plannerLoop_skip hx ((wants_iff s x f).mpr hw) hc
  case tune => exact plannerLoop_tune hx ((wants_iff s x f).mpr hw) hc
  case range =>
    by_cases hb : 1 < b.toNat
    · refine fixedCommand_answers h rfl ?_
      rw [show pairOf (field8 [b, f0, f1, f2, f3] 0) = none from pairOf_above hb]
      rfl
    · exact exec_tunePair h (p := ⟨b.toNat, by omega⟩) rfl (if_pos (hrange.resolve_left hb))
  case busy =>
    refine exec_tunePair h hp ?_
    rw [tunePair, if_neg (by omega), if_pos ((Pair.busy_iff _).mpr hbusy), busyPayload, bytes8_eq hp]
    rfl
  case accept =>
    have hfree : ¬ (s.pair p).busy = true := by
      rw [Pair.busy_iff]
      exact fun hbusy => hbusy.elim (by omega) (absurd hz)
    refine exec_tunePair h hp ?_
    obtain ⟨rest, htuned⟩ := stationTune_pair s p (f0.toNat + 256 * f1.toNat + 65536 * (f2.toNat + 256 * f3.toNat))
    rw [tunePair, if_neg (by omega), if_neg hfree, tunedPayload, htuned, bytes8_eq hp]
    simp only [Pair.tune, Pair.stopTimers, Pair.program, rangeOf]
    refine Prod.ext rfl (congrArg (Answer.mk .ok) ?_)
    split_ifs <;> rfl

end Sys2Proof.Machine
end

section
/-!
PROOFS. Lanes: starting work, the counted segment and the lanes' timers (06_lanes.md, R106 to R124): O46, O47, O49.
-/
namespace Sys2Proof.Machine

section
variable {s : State} {l : LaneId} {c : RunContext} {start : PendingStart}

/-! ## Coming to start (R109 to R111, R133) -/

theorem comeToStart_now (hc : (s.lane l).active = some c) (h : s.canStart c start = true) :
    comeToStart s l start = startNow s l c start := by
  simp only [comeToStart, hc, h, if_true]

theorem comeToStart_held (hc : (s.lane l).active = some c) (h : s.canStart c start = false) :
    comeToStart s l start = s.modLane l
      (Lane.hold (!s.monitor.quiet) (!decide (start = .edgeStage) && !s.pairReady c) (s.heldStart c start)) := by
  simp only [comeToStart, hc, h, Bool.false_eq_true, if_false]

theorem canStart_segment (hq : s.monitor.quiet = true) (hr : s.pairReady c = true) : s.canStart c start = true := by
  simp [State.canStart, hq, hr]

theorem canStart_edge (hq : s.monitor.quiet = true) : s.canStart c .edgeStage = true := by
  simp [State.canStart, hq]

theorem canStart_waits (h : s.monitor.quiet = false ∨ (start ≠ .edgeStage ∧ s.pairReady c = false)) :
    s.canStart c start = false := by
  rcases h with hq | ⟨he, hr⟩
  · simp [State.canStart, hq]
  · simp [State.canStart, he, hr]

theorem heldStart_eq (s : State) (c : RunContext) (start : PendingStart) :
    s.heldStart c start = if start = .countedSegment ∧ s.pairReady c = false then .settle else start := by
  cases start with
  | countedSegment => cases h : s.pairReady c <;> simp [State.heldStart, h]
  | _ => rfl

theorem startEdge_counts (hp : c.pullCode = none) :
    startEdge s l c = startEtu (s.modLane l (Lane.work .edge none)) l c := by
  simp only [startEdge, hp]

theorem startEdge_drives {code wait : Nat} (hp : c.pullCode = some (code, wait)) : startEdge s l c =
    (s.modSocket c.request.socket fun k => { k with efcOutput := BitVec.ofNat 12 code }).modLane l
      (Lane.work .edge (some (s.now + wait * Config.millisecond))) := by
  simp only [startEdge, hp]

theorem etuSetting_of_ne_jitter (h : c.stage ≠ .jitter) : c.etuSetting =
    ⟨c.mask.edgeMode, c.mask.glitchSetting * Config.filterStep, 2 ^ c.mask.periodsExp, c.stage⟩ := by
  rw [RunContext.etuSetting]
  cases hs : c.stage with
  | jitter => exact absurd hs h
  | _ => rfl

theorem etuSetting_jitter {j : JitterPart} (h : c.stage = .jitter) (hj : c.mask.jitter = some j) : c.etuSetting =
    ⟨c.mask.edgeMode, c.mask.glitchSetting * Config.filterStep, 2 ^ j.periodsExp, c.stage⟩ := by
  simp only [RunContext.etuSetting, h, stagePeriods, hj]

theorem segmentLength_eq (d : Nat) : segmentLength d =
    if d = 0 then 2000 * 2000000000 else if d = 1 then 200 * 2000000000 else if d = 2 then 20 * 2000000000
    else if d = 3 then 2 * 2000000000 else 200 * 2000000 := by
  unfold segmentLength
  split <;> simp_all [Config.second, Config.millisecond, Config.microsecond]

end

/-- Settles O46, by the conditions of a start hold and by what is started. -/
theorem comingToStartWorksOrHolds : Obligations.ComingToStartWorksOrHolds := by
  unfold Obligations.ComingToStartWorksOrHolds
  refine ⟨fun g input now => rfl, fun s l c => rfl, fun c => ⟨fun hs => ?periods, fun j hs hj => ?jitter, fun u hs hu =>
    ?low, fun u hs hu => ?high, fun hl hh => ?none⟩, fun s l c start hc hn => ⟨fun hw => ?held, fun hq hr => ⟨fun he => ?settle,
    fun he => ?counted⟩, fun hq he => ⟨fun hp => ?edge, fun code wait hp => ?pull⟩, fun b bs hb => ?segment⟩⟩
  case periods => exact etuSetting_of_ne_jitter hs
  case jitter => exact etuSetting_jitter hs hj
  case low => simp only [RunContext.pullCode, hu, hs]
  case high => simp only [RunContext.pullCode, hu, hs]
  case none =>
    unfold RunContext.pullCode
    split <;> simp_all
  case held =>
    rw [comeToStart_held hc (canStart_waits hw), heldStart_eq]
    have hedge : (!decide (start = .edgeStage)) = decide (start ≠ .edgeStage) := by simp
    rw [hedge]
    rfl
  case settle =>
    subst he
    exact comeToStart_now hc (canStart_segment hq hr)
  case counted =>
    subst he
    exact comeToStart_now hc (canStart_segment hq hr)
  case edge =>
    subst he
    exact (comeToStart_now hc (canStart_edge hq)).trans (startEdge_counts hp)
  case pull =>
    subst he
    exact (comeToStart_now hc (canStart_edge hq)).trans (startEdge_drives hp)
  case segment => simp only [RunContext.segment, hb, segmentLength_eq]

/-! ## Counted segments (R10 to R12, R113, R123) -/

theorem averagedLevel_bounds (z : CrossSpectrum) (n : Nat) : -2000 ≤ averagedLevel z n ∧ averagedLevel z n ≤ -300 :=
  holdInt_bounds (by decide)

theorem roundEnded_pow (k : Nat) : roundEnded (2 ^ k) = some k := by
  rw [roundEnded, Nat.log2_two_pow, if_pos rfl]

theorem roundEnded_none {counted : Nat} (h : ∀ k, counted ≠ 2 ^ k) : roundEnded counted = none := if_neg (h _)

section
variable {s : State} {l : LaneId} {c : RunContext} {v : Vector CrossSpectrum 8}

theorem markedRequest_iff (s : State) (l : LaneId) (q : Request) (m : Mask) : s.markedRequest l = some (q, m) ↔
    ∃ r, (s.lane l).mark = some r ∧ s.queued r = some q ∧ (s.mask q.mask).contents = some m := by
  unfold State.markedRequest
  cases hm : (s.lane l).mark with
  | none => simp
  | some r =>
    cases hq : s.queued r with
    | none => simp [hq]
    | some x =>
      simp only [Option.map_eq_some_iff, Prod.mk.injEq, Option.some.injEq, exists_eq_left', hq]
      constructor
      · rintro ⟨m, hm, rfl, rfl⟩
        exact ⟨rfl, hm⟩
      · rintro ⟨rfl, hm⟩
        exact ⟨m, hm, rfl, rfl⟩

/-- A count that ends no round only adds the segment. -/
theorem countSegment_within (h : ∀ k, c.counted + 1 ≠ 2 ^ k) : countSegment s v c = (c.addSegment v, false) := by
  simp only [countSegment, show roundEnded (c.addSegment v).counted = none from roundEnded_none h]

/-- A count that ends round k does the round-end work against the attached pair's floors. -/
theorem countSegment_roundEnd {k : Nat} {p : PairId} {y : BandPart} (h : c.counted + 1 = 2 ^ k) (hp : c.pair = some p)
    (hy : c.mask.band = some y) : countSegment s v c =
      (((c.addSegment v).endRound y (s.pair p).floors k),
       ((c.addSegment v).endRound y (s.pair p).floors k).correlationEnds y k) := by
  have hround : roundEnded (c.addSegment v).counted = some k := by
    rw [show (c.addSegment v).counted = 2 ^ k from h, roundEnded_pow]
  have hband : (c.addSegment v).mask.band = some y := hy
  have hfloors : s.floorsFor (c.addSegment v) = some (s.pair p).floors := by
    rw [State.floorsFor, show (c.addSegment v).pair = some p from hp, Option.map_some]
  simp only [countSegment, hround, hband, hfloors]

theorem timed_some {st : LaneState} {d : Nat} (hc : (s.lane l).active = some c) (hd : (s.lane l).interval = some d)
    (hs : (s.lane l).state = st) : (s.lane l).timed st = some (c, d) := by
  simp only [Lane.timed, hc, hd, hs, if_true]

theorem exec_countedSegment {d : Nat} (hs : (s.lane l).state = .correlate) (hc : (s.lane l).active = some c)
    (hd : (s.lane l).interval = some d) : exec (.countedSegmentCompletion l v) s =
      .next (completeCounted (s.reach d) l v c) := by
  simp only [exec, execCountedSegmentCompletion, timed_some hc hd hs]

theorem completeCounted_ends (h : (countSegment s v c).2 = true) : completeCounted s l v c =
    endActive (s.modLane l fun x => { x with active := some (countSegment s v c).1, interval := none }) l .completed none :=
  if_pos h

theorem completeCounted_goesOn (h : (countSegment s v c).2 = false) : completeCounted s l v c =
    afterCount (s.modLane l fun x => { x with active := some (countSegment s v c).1, interval := none }) l
      (countSegment s v c).1 := if_neg (by rw [h]; exact Bool.false_ne_true)

theorem afterCount_marked {q : Request} {m : Mask} (h : s.markedRequest l = some (q, m)) :
    afterCount s l c = arbitrate (suspend s l c q m) := by
  simp only [afterCount, h]

theorem afterCount_unmarked (h : s.markedRequest l = none) :
    afterCount s l c = arbitrate (comeToStart s l .countedSegment) := by
  simp only [afterCount, h]

end

/-- Settles O47, by whether the count ends a round, and then by what the round and the mark decide. -/
theorem countedCompletionCountsThenGoesOn : Obligations.CountedCompletionCountsThenGoesOn := by
  unfold Obligations.CountedCompletionCountsThenGoesOn
  refine ⟨fun z n => ⟨(averagedLevel_bounds z n).1, (averagedLevel_bounds z n).2, fun k h0 hk => ?level⟩,
    fun spectrum n b e => max?_map_decadesFrom_eq_some_iff (fun d => averagedLevel spectrum[d] n) b.first b.last e,
    markedRequest_iff, fun s l c q m => rfl, fun s l v c d hs hc hd => ?_⟩
  case level => rw [le_averagedLevel z n k h0 hk, reachesLevel, decide_eq_true_iff]
  intro u measured sum a r w
  have hmeasured : ∀ i, measures c.bands i = true ↔ measured i = true := fun i => by
    unfold measures
    cases hfirst : c.bands.head? <;> cases hlast : c.bands.getLast? <;> simp [measured, hfirst, hlast]
  have hsum : accumulate c.spectrum v c.bands = sum :=
    congrArg Vector.ofFn (funext fun i => if_congr (hmeasured i) rfl rfl)
  have ha : c.addSegment v = a := congrArg (fun z : Vector CrossSpectrum 8 =>
    ({ c with
       counted := c.counted + 1
       spectrum := z
       bands := c.bands.map fun b => { b with estimate := estimateOf z (c.counted + 1) b.band } } : RunContext)) hsum
  refine ⟨fun hk => ?within, fun k p y hk hp hy => ?roundEnd, fun hr => ?ends, fun q m hr hm => ?suspends, fun hr hm => ?goesOn⟩
  case within => exact (countSegment_within hk).trans (congrArg (·, false) ha)
  case roundEnd =>
    have hr : r = _ := countSegment_roundEnd (s := u) (v := v) hk hp hy
    rw [hr, ha]
    exact ⟨rfl, rfl⟩
  all_goals refine (exec_countedSegment hs hc hd).trans (congrArg Host.Outcome.next ?_)
  case ends => exact completeCounted_ends hr
  case suspends => exact (completeCounted_goesOn hr).trans (afterCount_marked hm)
  case goesOn => exact (completeCounted_goesOn hr).trans (afterCount_unmarked hm)

/-! ## The lanes' timers (R111, R114, R115, R139) -/

/-- Settles O49, by the timer of each event. -/
theorem laneTimersExpire : Obligations.LaneTimersExpire := by
  unfold Obligations.LaneTimersExpire
  refine fun s l c d hc => ⟨fun hs hd => ?settle, fun hs hd => ?efc, fun t0 ht hd => ?run, fun hd => ?edge⟩
  case settle => simp only [exec, execSettleCompletion, timed_some hc hd hs]; rfl
  case efc =>
    simp only [exec, execEfcSettleExpiry, timed_some hc hd hs, startEtu, modLane_modLane]
    refine congrArg Host.Outcome.next (modLane_congr ?_)
    simp only [State.etuInput, modLane_lane, if_true]
    rfl
  case run =>
    simp only [exec, execRunTimerExpiry, hc, Option.bind_some, RunContext.expiry, ht, Option.map_some, hd]
    rfl
  case edge =>
    simp only [exec, execEdgeTimeout, hd]
    rfl

end Sys2Proof.Machine
end

section
/-!
PROOFS. The Edge Timing Units (07_edge_timing_units.md, R132 to R146): O50, O51, O52.
-/
namespace Sys2Proof.Machine

/-! ## Transitions and the glitch filter (R134) -/

section
variable {s : State} {l : LaneId} {k : SocketId} {high : Bool} {x : Stamp}

theorem Etu.active_iff (e : Etu) : e.active = true ↔ e.state ≠ .stopped := decide_eq_true_iff

theorem laneOn_some (h : s.laneOn k = some l) : (s.lane l).connected = some k := by
  simpa using List.find?_some h

theorem laneOn_none (h : s.laneOn k = none) : (s.lane l).connected ≠ some k := by
  simpa using List.find?_eq_none.mp h l (mem_allLanes l)

/-- The state at the transition: the signal has its level and the time is the transition's. -/
def State.atTransition (s : State) (k : SocketId) (high : Bool) (x : Stamp) : State :=
  (s.modLines fun y => { y with signal := y.signal.set k high }).reachStamp x

theorem exec_transition_loose (hr : s.inReset = false) (hs : s.lines.signal[k] ≠ high) (h : s.laneOn k = none) :
    exec (.etuInputTransition k high x) s = .next (s.atTransition k high x) := by
  simp only [exec, execEtuInputTransition, hr, hs, h, decide_false, Bool.or_self, Bool.false_eq_true, if_false]
  rfl

theorem exec_transition_taken (hr : s.inReset = false) (hs : s.lines.signal[k] ≠ high) (h : s.laneOn k = some l) :
    exec (.etuInputTransition k high x) s = .next (inputTransition (s.atTransition k high x) l high x) := by
  simp only [exec, execEtuInputTransition, hr, hs, h, decide_false, Bool.or_self, Bool.false_eq_true, if_false]
  rfl

theorem inputTransition_stopped (h : (s.lane l).etu.state = .stopped) : inputTransition s l high x = s :=
  if_neg ((Etu.active_iff _).not.mpr (not_not.mpr h))

theorem inputTransition_back (h : (s.lane l).etu.state ≠ .stopped) (hl : high = (s.lane l).etu.filtered) :
    inputTransition s l high x =
      if (s.lane l).etu.qualification.isSome then s.modLane l fun y => { y with etu := y.etu.glitch } else s :=
  (if_pos ((Etu.active_iff _).mpr h)).trans (if_pos hl)

theorem inputTransition_away (h : (s.lane l).etu.state ≠ .stopped) (hl : high ≠ (s.lane l).etu.filtered) :
    inputTransition s l high x =
      if (s.lane l).etu.width = 0 then acceptEdge s l high x
      else s.modLane l fun y => { y with etu := y.etu.qualify x s.now } :=
  (if_pos ((Etu.active_iff _).mpr h)).trans (if_neg hl)

end

/-- Settles O50, by the level against the filtered level and the qualification. -/
theorem transitionsQualifyOrGlitch : Obligations.TransitionsQualifyOrGlitch := by
  unfold Obligations.TransitionsQualifyOrGlitch
  refine fun s k high x hr hs => ⟨fun h => ⟨fun l => laneOn_none h, exec_transition_loose hr hs h⟩,
    fun l h => ⟨laneOn_some h, fun g hg => ?width, fun he => ?stopped, fun he =>
      ⟨fun hl hq => ?same, fun hl hq => ?glitch, fun hl hw => ?accepted, fun hl hw => ?qualifies, fun q hq => ?expiry⟩⟩⟩
  case width => simp only [Etu.width, hg]
  case expiry =>
    simp only [exec, execFilterWidthExpiry, hq, (Etu.active_iff _).mpr he, if_true]
    rfl
  all_goals refine (exec_transition_taken hr hs h).trans (congrArg Host.Outcome.next ?_)
  case stopped => exact inputTransition_stopped (s := s.atTransition k high x) he
  case same =>
    refine (inputTransition_back (s := s.atTransition k high x) he hl).trans (if_neg ?_)
    exact fun hsome => absurd hq (Option.isSome_iff_ne_none.mp hsome)
  case glitch =>
    refine (inputTransition_back (s := s.atTransition k high x) he hl).trans (if_pos ?_)
    exact Option.isSome_iff_ne_none.mpr hq
  case accepted => exact (inputTransition_away (s := s.atTransition k high x) he hl).trans (if_pos hw)
  case qualifies =>
    refine (inputTransition_away (s := s.atTransition k high x) he hl).trans ((if_neg hw).trans (modLane_congr rfl))

/-! ## Accepted edges (R136 to R139) -/

/-- The timed edge in the history, with the timeout restarted. -/
def Etu.noted (e : Etu) (g : EtuSetting) (level : Bool) (x : Stamp) (now : Nat) : Etu :=
  { e with
    filtered := level
    qualification := none
    history := (⟨level, x⟩ :: e.history).take (if g.mode = .both then 3 else 2)
    timeout := some (now + 50 * 2000000) }

section
variable {e : Etu} {g : EtuSetting} {level : Bool} {x : Stamp} {now : Nat}

theorem EdgeMode.depth_eq (m : EdgeMode) : m.depth = if m = .both then 3 else 2 := by cases m <;> rfl

/-- An edge that the mode times ends a period, but for a falling edge in BOTH. -/
theorem EdgeMode.marks_eq (m : EdgeMode) (rising : Bool) :
    m.marks rising = (m.times rising && (decide (m ≠ .both) || rising)) := by
  cases m <;> cases rising <;> rfl

theorem accept_untimed (hg : e.setting = some g) (ht : g.mode.times level = false) :
    e.accept level x now = { e with filtered := level, qualification := none } := by
  simp only [Etu.accept, hg, ht, Bool.false_eq_true, if_false]

theorem accept_timed (hg : e.setting = some g) (ht : g.mode.times level = true) : e.accept level x now =
    ({ e with filtered := level, qualification := none } : Etu).timed g.mode level x now := by
  simp only [Etu.accept, hg, ht, if_true]

theorem accept_unmarked (hg : e.setting = some g) (ht : g.mode.times level = true) (hm : g.mode.marks level = false) :
    e.accept level x now = e.noted g level x now := by
  rw [accept_timed hg ht, Etu.timed, hm, EdgeMode.depth_eq]
  rfl

theorem accept_opens (hg : e.setting = some g) (ht : g.mode.times level = true) (hm : g.mode.marks level = true)
    (hs : e.state = .opening) : e.accept level x now = { e.noted g level x now with state := .counting } := by
  rw [accept_timed hg ht, Etu.timed, hm, EdgeMode.depth_eq]
  simp only [hs, if_true]
  rfl

theorem accept_counts (hg : e.setting = some g) (ht : g.mode.times level = true) (hm : g.mode.marks level = true)
    (hs : e.state = .counting) {p h : Nat} (hp : sampleOf g.mode x e.history = some (p, h)) :
    e.accept level x now = { e.noted g level x now with periods := e.periods + 1, stats := e.stats.add p h } := by
  rw [accept_timed hg ht, Etu.timed, hm, EdgeMode.depth_eq]
  simp only [hs, hp, if_true, Etu.noted]
  rfl

theorem sampleOf_both {prev before : Edge} {rest : List Edge} {m : EdgeMode} (h : m = .both) :
    sampleOf m x (prev :: before :: rest) =
      some ((x - before.stamp).toNat, (prev.stamp - before.stamp).toNat) := by
  subst h; rfl

theorem sampleOf_single {prev : Edge} {rest : List Edge} {m : EdgeMode} (h : m ≠ .both) :
    sampleOf m x (prev :: rest) = some ((x - prev.stamp).toNat, 0) := by
  cases m with
  | both => exact absurd rfl h
  | _ => cases rest <;> rfl

theorem PeriodStats.add_eq (t : PeriodStats) (p h : Nat) : t.add p h =
    ⟨t.span + p, t.squares + p * p, some (t.shortest.elim p fun y => min y p),
     some (t.longest.elim p fun y => max y p), t.high + h⟩ := by
  rw [PeriodStats.add]
  cases t.shortest <;> cases t.longest <;> rfl

theorem timed_setting (e : Etu) (m : EdgeMode) (rising : Bool) (x : Stamp) (now : Nat) :
    (e.timed m rising x now).setting = e.setting := by
  unfold Etu.timed
  dsimp only
  split
  · split
    · rfl
    · split <;> rfl
    · rfl
  · rfl

theorem accept_setting (e : Etu) (level : Bool) (x : Stamp) (now : Nat) : (e.accept level x now).setting = e.setting := by
  unfold Etu.accept
  dsimp only
  split
  · rfl
  · split
    · exact timed_setting _ _ _ _ _
    · rfl

theorem acceptEdge_closes {s : State} {l : LaneId}
    (h : (s.lane l).etu.closes ((s.lane l).etu.accept level x s.now) = true) :
    acceptEdge s l level x = closeWindow s l ((s.lane l).etu.accept level x s.now) := if_pos h

theorem acceptEdge_goesOn {s : State} {l : LaneId}
    (h : ¬ (s.lane l).etu.closes ((s.lane l).etu.accept level x s.now) = true) : acceptEdge s l level x =
      s.modLane l fun y => { y with etu := (s.lane l).etu.accept level x s.now } := if_neg h

theorem closes_iff {before after : Etu} : before.closes after = true ↔
    ∃ g, after.setting = some g ∧ after.periods ≠ before.periods ∧ after.periods = g.periods := by
  unfold Etu.closes
  cases after.setting <;> simp

end

/-- Settles O51, by the edge mode and the unit's state. -/
theorem acceptedEdgesFormPeriods : Obligations.AcceptedEdgesFormPeriods := by
  unfold Obligations.AcceptedEdgesFormPeriods
  refine ⟨fun rising => ⟨rfl, rfl, rfl⟩, fun s l level x => ⟨fun g hg hne he => ?closes, fun h => ?goesOn⟩,
    fun e g level x now hg => ⟨accept_untimed hg, fun ht => ⟨fun hm hl => ?falling, fun hl => ⟨fun hs => ?opens,
      fun prev before rest hs hh hm => ?both, fun prev rest hs hh hm => ?single⟩⟩, fun p h => ?stats⟩⟩
  case closes => exact acceptEdge_closes (closes_iff.mpr ⟨g, (accept_setting _ _ _ _).trans hg, hne, he⟩)
  case goesOn =>
    refine acceptEdge_goesOn fun hc => ?_
    obtain ⟨g, hg, hne, he⟩ := closes_iff.mp hc
    exact (h g ((accept_setting _ _ _ _).symm.trans hg)).elim hne fun h => h he
  case falling => exact accept_unmarked hg ht (by rw [EdgeMode.marks_eq, hm, hl]; rfl)
  case stats =>
    rw [PeriodStats.add_eq]
    cases e.stats.shortest <;> cases e.stats.longest <;> rfl
  all_goals have hmarks : g.mode.marks level = true := by rw [EdgeMode.marks_eq, ht]; simpa using hl
  case opens => exact accept_opens hg ht hmarks hs
  case both => exact accept_counts hg ht hmarks hs (by rw [hh]; exact sampleOf_both hm)
  case single => exact accept_counts hg ht hmarks hs (by rw [hh]; exact sampleOf_single hm)

/-! ## Results of a window (R141 to R145) -/

/-- The integer nearest to num / den, the one away from zero when two are. -/
def Nearest (num : Int) (den : Nat) (r : Int) : Prop :=
  2 * (num - r * den).natAbs < den ∨ (2 * (num - r * den).natAbs = den ∧ num.natAbs < (r * den).natAbs)

/-- Rounding a magnitude: twice the distance is at most den, and on a tie the result is the larger. -/
theorem roundHalfUp_bounds (a : Nat) {den : Nat} (h : 0 < den) :
    2 * ((2 * a + den) / (2 * den) * den) ≤ 2 * a + den ∧ 2 * a < 2 * ((2 * a + den) / (2 * den) * den) + den := by
  have hdiv := Nat.div_add_mod (2 * a + den) (2 * den)
  have hmod := Nat.mod_lt (2 * a + den) (show 0 < 2 * den by omega)
  have hswap : 2 * den * ((2 * a + den) / (2 * den)) = 2 * ((2 * a + den) / (2 * den) * den) := by ring
  omega

theorem nearest_natCast (a : Nat) {den : Nat} (h : 0 < den) : Nearest a den ((2 * a + den) / (2 * den) : Nat) := by
  obtain ⟨hle, hlt⟩ := roundHalfUp_bounds a h
  generalize (2 * a + den) / (2 * den) = q at hle hlt
  have hcast : (q : Int) * den = (q * den : Nat) := by push_cast; rfl
  rw [Nearest, hcast]
  omega

theorem Nearest.neg {num : Int} {den : Nat} {r : Int} (h : Nearest num den r) : Nearest (-num) den (-r) := by
  have hdiff : (-num - -r * den).natAbs = (num - r * den).natAbs := by
    rw [← Int.natAbs_neg]; congr 1; ring
  rw [Nearest, hdiff, Int.natAbs_neg, Int.neg_mul, Int.natAbs_neg]
  exact h

theorem roundDiv_nearest (num : Int) {den : Nat} (h : 0 < den) : Nearest num den (roundDiv num den) := by
  unfold roundDiv
  split
  next hneg =>
    have hnum : num = -(num.natAbs : Int) := by omega
    have hnear := (nearest_natCast num.natAbs h).neg
    rwa [← hnum] at hnear
  next hpos =>
    have hnum : num = (num.natAbs : Int) := by omega
    have hnear := nearest_natCast num.natAbs h
    rwa [← hnum] at hnear

theorem roundDiv_natCast (a den : Nat) : roundDiv a den = ((2 * a + den) / (2 * den) : Nat) :=
  if_neg (by omega)

theorem offsetPpb_eq {n span f : Nat} (hs : 0 < span) : offsetPpb n span f = holdInt (-2000000000) 2000000000
    (roundDiv ((((n * 2000000000000 : Nat) : Int) - ((span * f : Nat) : Int)) * 1000000000) (span * f)) := by
  rw [offsetPpb, if_neg (by omega)]
  rfl

/-- The integer nearest to the square root of a, over n: halves are rounded up. -/
theorem rootOver_bounds {n : Nat} (a : Nat) (hn : 0 < n) :
    ((intSqrt (4 * a) + n) / (2 * n) = 0 ∨ ((2 * ((intSqrt (4 * a) + n) / (2 * n)) - 1) * n) ^ 2 ≤ 4 * a) ∧
      4 * a < ((2 * ((intSqrt (4 * a) + n) / (2 * n)) + 1) * n) ^ 2 := by
  obtain ⟨hle, hlt⟩ := intSqrt_spec (4 * a)
  generalize intSqrt (4 * a) = root at hle hlt
  have hdiv := Nat.div_add_mod (root + n) (2 * n)
  have hmod := Nat.mod_lt (root + n) (show 0 < 2 * n by omega)
  generalize (root + n) / (2 * n) = r at hdiv
  have hswap : 2 * n * r = 2 * r * n := by ring
  constructor
  · refine or_iff_not_imp_left.mpr fun hr => ?_
    have hlow : (2 * r - 1) * n ≤ root := by
      rw [Nat.sub_mul]
      omega
    calc ((2 * r - 1) * n) ^ 2 ≤ root ^ 2 := Nat.pow_le_pow_left hlow 2
      _ = root * root := sq root
      _ ≤ 4 * a := hle
  · have hhigh : root + 1 ≤ (2 * r + 1) * n := by
      rw [Nat.add_mul]
      omega
    calc 4 * a < (root + 1) * (root + 1) := hlt
      _ = (root + 1) ^ 2 := (sq _).symm
      _ ≤ ((2 * r + 1) * n) ^ 2 := Nat.pow_le_pow_left hhigh 2

theorem dutyCycle_eq {t : PeriodStats} (h : 0 < t.span) :
    dutyCycle t = holdNat 10000 ((2 * (t.high * 10000) + t.span) / (2 * t.span)) := by
  rw [dutyCycle, if_neg (by omega)]

theorem roundDiv_nonneg {a den : Nat} : 0 ≤ roundDiv a den := by
  rw [roundDiv_natCast]
  exact Int.natCast_nonneg _

theorem pullPpm_eq {n0 s0 n1 s1 : Nat} (f : Nat) (h0 : 0 < s0) (h1 : 0 < s1) : pullPpm (s0, n0) (s1, n1) f =
    holdNat 65534 (roundDiv (((((n1 * s0 : Nat) : Int) - ((n0 * s1 : Nat) : Int)).natAbs * (2000000000000 * 1000000) : Nat) : Int)
      (s1 * s0 * f)).toNat := by
  rw [pullPpm, if_neg (by omega)]
  rfl

/-! ## Going on with the plan (R4, R110) -/

theorem stageAfter_next {before after : List Stage} {x y : Stage} (h : x ∉ before) :
    stageAfter x (before ++ x :: y :: after) = some y := by
  induction before with
  | nil => exact if_pos rfl
  | cons z rest ih =>
    obtain ⟨hz, hrest⟩ := not_or.mp (List.mem_cons.not.mp h)
    exact (if_neg (Ne.symm hz)).trans (ih hrest)

theorem stageAfter_last {before : List Stage} {x : Stage} (h : x ∉ before) : stageAfter x (before ++ [x]) = none := by
  induction before with
  | nil => exact if_pos rfl
  | cons z rest ih =>
    obtain ⟨hz, hrest⟩ := not_or.mp (List.mem_cons.not.mp h)
    exact (if_neg (Ne.symm hz)).trans (ih hrest)

theorem startFor_eq (x : Stage) : startFor x = if x = .correlation then .countedSegment else .edgeStage := by
  cases x <;> rfl

section
variable {s : State} {l : LaneId} {c : RunContext} {e : Etu} {x : Stage}

theorem advance_next (hc : (s.lane l).active = some c) (h : stageAfter c.stage c.plan = some x) : advance s l =
    arbitrate (comeToStart (s.modLane l fun y => { y with active := some { c with stage := x } }) l (startFor x)) := by
  simp only [advance, hc, h]
  rw [modLane_congr (g := fun y => { y with active := some { c with stage := x } }) (by simp only [Lane.modActive, hc]; rfl)]

theorem advance_last (hc : (s.lane l).active = some c) (h : stageAfter c.stage c.plan = none) :
    advance s l = endActive s l .completed none := by
  simp only [advance, hc, h]

/-- The lane with its unit's window closed and the run as its stage left it. -/
def windowClosed (s : State) (l : LaneId) (e : Etu) (d : RunContext) : State :=
  s.modLane l fun y => { y with etu := e.close, active := some d }

theorem closeWindow_ends (hc : (s.lane l).active = some c) {x : Ending} (h : (c.takeWindow e).stageEnding = some x) :
    closeWindow s l e = endActive (windowClosed s l e (c.takeWindow e)) l x none := by
  simp only [closeWindow, hc, h, windowClosed]

theorem closeWindow_goesOn (hc : (s.lane l).active = some c) (h : (c.takeWindow e).stageEnding = none) :
    closeWindow s l e = advance (windowClosed s l e (c.takeWindow e)) l := by
  simp only [closeWindow, hc, h, windowClosed]

theorem takeWindow_frequency (h : c.stage = .frequency) : c.takeWindow e = c.takeFrequency e := by
  simp only [RunContext.takeWindow, h]

theorem takeWindow_jitter (h : c.stage = .jitter) : c.takeWindow e = c.takeJitter e := by
  simp only [RunContext.takeWindow, h]

theorem takeWindow_pullLow (h : c.stage = .pullLow) : c.takeWindow e = c.takePullLow e := by
  simp only [RunContext.takeWindow, h]

theorem takeWindow_pullHigh {low : Nat × Nat} {u : PullPart} (h : c.stage = .pullHigh) (hl : c.pullLow = some low)
    (hu : c.mask.pull = some u) : c.takeWindow e =
      { c with
        pull := some (pullPpm low (e.stats.span, e.periods) c.mask.nominal)
        fails := { c.fails with
          pull := c.fails.pull || decide (pullPpm low (e.stats.span, e.periods) c.mask.nominal < u.minPull) } } := by
  simp only [RunContext.takeWindow, h, RunContext.takePullHigh, hl, hu]

theorem stageEnding_frequency (h : c.stage = .frequency) {f : Int} (hf : c.frequency = some f) :
    c.stageEnding = if c.mask.tolerance * 1000 < f.natAbs then some .offFrequency else none := by
  simp only [RunContext.stageEnding, h, RunContext.offFrequency, hf, decide_eq_true_eq]

theorem stageEnding_jitter (h : c.stage = .jitter) :
    c.stageEnding = if c.fails.any = true ∧ c.mask.failFast = true then some .completed else none := by
  simp only [RunContext.stageEnding, h, Bool.and_eq_true]

theorem stageEnding_pull (h : c.stage = .pullLow ∨ c.stage = .pullHigh) : c.stageEnding = none := by
  rcases h with h | h <;> simp only [RunContext.stageEnding, h]

/-- A stage whose decision may end the run. -/
theorem closeWindow_decides (hc : (s.lane l).active = some c) {p : Prop} [Decidable p] {x : Ending}
    (h : (c.takeWindow e).stageEnding = if p then some x else none) : closeWindow s l e =
      if p then endActive (windowClosed s l e (c.takeWindow e)) l x none
      else advance (windowClosed s l e (c.takeWindow e)) l := by
  split
  · exact closeWindow_ends hc (h.trans (if_pos ‹_›))
  · exact closeWindow_goesOn hc (h.trans (if_neg ‹_›))

end

/-- Settles O52, by the stage whose window closes; the figures follow from the rounding of a quotient. -/
theorem windowCloseAppliesTheStageDecision : Obligations.WindowCloseAppliesTheStageDecision := by
  unfold Obligations.WindowCloseAppliesTheStageDecision
  refine ⟨⟨fun n span f hs hf => ⟨_, roundDiv_nearest _ (Nat.mul_pos hs hf), offsetPpb_eq hs⟩,
    fun n span squares hn _ => ⟨_, (rootOver_bounds _ hn).1, (rootOver_bounds _ hn).2, rfl⟩, fun t lo hi hlo hhi => ?pp,
    fun t ht => ⟨_, nearest_natCast _ ht, dutyCycle_eq ht⟩,
    fun n0 s0 n1 s1 f h0 h1 hf => ⟨_, ?pull, pullPpm_eq f h0 h1⟩⟩,
    fun s l c before after x hc hb => ⟨fun hp => ?next, fun hp => ?last⟩,
    fun s l c e hc => ⟨fun hs => ?frequency, fun j hs hj => ?jitter, fun hs => ?low, fun low u hs hlow hu => ?high⟩⟩
  case pp => simp only [ppJitter, hlo, hhi, Option.getD_some]; rfl
  case pull =>
    rw [Int.toNat_of_nonneg roundDiv_nonneg]
    exact roundDiv_nearest _ (Nat.mul_pos (Nat.mul_pos h1 h0) hf)
  case next => rw [advance_next hc (hp ▸ stageAfter_next hb), startFor_eq]
  case last => exact advance_last hc (hp ▸ stageAfter_last hb)
  case frequency =>
    have hending := stageEnding_frequency (c := c.takeFrequency e) hs rfl
    rw [← takeWindow_frequency hs] at hending
    rw [closeWindow_decides hc hending, takeWindow_frequency hs]
    rfl
  case jitter =>
    have hending := stageEnding_jitter (c := c.takeJitter e) hs
    rw [← takeWindow_jitter hs] at hending
    rw [closeWindow_decides hc hending, takeWindow_jitter hs]
    simp only [RunContext.takeJitter, hj]
    rfl
  case low =>
    have hending := stageEnding_pull (c := c.takePullLow e) (.inl hs)
    rw [← takeWindow_pullLow hs] at hending
    rw [closeWindow_goesOn hc hending, takeWindow_pullLow hs]
    rfl
  case high =>
    have htake := takeWindow_pullHigh (e := e) hs hlow hu
    rw [closeWindow_goesOn hc (stageEnding_pull (.inr (by rw [htake]; exact hs))), htake]
    rfl

end Sys2Proof.Machine
end

section
/-!
PROOFS. The run end (01_runs_and_verdicts.md, R23 to R25; 06_lanes.md, R124 to R128): O53.
-/
namespace Sys2Proof.Machine

/-! ## Commits (R152) -/

section
variable {run : RequestRef} {rec : Record}

theorem commitEntries_none {es : List RingEntry} (h : ∀ e ∈ es, ¬ (e.record = none ∧ e.run = run)) :
    commitEntries run rec es = es := by
  induction es with
  | nil => rfl
  | cons e rest ih =>
    obtain ⟨he, hrest⟩ := List.forall_mem_cons.mp h
    rw [commitEntries, if_neg he, ih hrest]

theorem commitEntries_first {before after : List RingEntry} {e : RingEntry}
    (h : ∀ x ∈ before, ¬ (x.record = none ∧ x.run = run)) (he : e.record = none ∧ e.run = run) :
    commitEntries run rec (before ++ e :: after) = before ++ { e with record := some rec } :: after := by
  induction before with
  | nil => exact if_pos he
  | cons x rest ih =>
    obtain ⟨hx, hrest⟩ := List.forall_mem_cons.mp h
    rw [List.cons_append, commitEntries, if_neg hx, ih hrest]
    rfl

end

/-! ## What the run end's parts leave alone -/

/-- A grant of the link changes the pairs and the link alone. -/
theorem linkGrant_frame (s : State) : ∃ pairs link, linkGrant s = { s with pairs := pairs, link := link } := by
  rcases linkGrant_cases s with h | ⟨p, rest, l, h⟩
  · exact ⟨_, _, h⟩
  · exact ⟨_, _, h⟩

/-- A planner pass changes the retune records, the pairs and the link alone. -/
theorem plannerLoop_frame (k : Nat) (taken : List Nat) (s : State) : ∃ retune pairs link,
    plannerLoop k taken s = { s with retune := retune, pairs := pairs, link := link } := by
  induction k generalizing taken s with
  | zero => exact ⟨_, _, _, rfl⟩
  | succ k ih =>
    cases hn : s.nextUnserved taken with
    | none => exact ⟨_, _, _, plannerLoop_done hn⟩
    | some x =>
      obtain ⟨_, ⟨f, hw, _⟩, _⟩ := nextUnserved_some hn
      cases hc : s.planChoice x with
      | none => rw [plannerLoop_skip hn hw hc]; exact ih _ _
      | some p =>
        obtain ⟨pairs, link, htune⟩ := linkGrant_frame ((s.setRetune p (some x.ref)).modPair p (Pair.tune p f))
        have htuned : plannerTune s p f x =
            { s with retune := s.retune.set p (some x.ref), pairs := pairs, link := link } := htune
        obtain ⟨retune, pairs', link', hloop⟩ := ih (f :: taken) (plannerTune s p f x)
        exact ⟨retune, pairs', link', by rw [plannerLoop_tune hn hw hc, hloop, htuned]⟩

theorem plannerPass_frame (s : State) : ∃ retune pairs link,
    plannerPass s = { s with retune := retune, pairs := pairs, link := link } := plannerLoop_frame _ _ s

/-- A detachment changes the retune records, the pairs and the link alone. -/
theorem detach_frame (s : State) (x : Option PairId) : ∃ retune pairs link,
    detach s x = { s with retune := retune, pairs := pairs, link := link } := by
  cases x with
  | none => exact ⟨_, _, _, rfl⟩
  | some p =>
    rw [detach, plannerIfFree]
    split
    · obtain ⟨retune, pairs, link, h⟩ := plannerPass_frame (s.modPair p fun x => { x with attachments := x.attachments - 1 })
      exact ⟨retune, pairs, link, h⟩
    · exact ⟨_, _, _, rfl⟩

theorem detach_attachments (s : State) (x : Option PairId) (p : PairId) : ((detach s x).pair p).attachments =
    if x = some p then (s.pair p).attachments - 1 else (s.pair p).attachments := by
  cases x with
  | none => rfl
  | some j =>
    rw [detach, (plannerIfFree_same _ j).attachments p, modPair_pair]
    by_cases e : p = j
    · subst e; simp
    · have e' : ¬ j = p := fun h => e h.symm
      simp [e, e']

/-- An increment changes the counters and the ports alone. -/
theorem bumpYield_frame (s : State) (k : SocketId) (i : Fin 6) : ∃ counters ports,
    bumpYield s k i = { s with counters := counters, ports := ports } := by
  unfold bumpYield
  split
  · dsimp only
    split
    · exact ⟨_, _, rfl⟩
    · exact ⟨_, _, rfl⟩
  · exact ⟨_, _, rfl⟩

/-! ## The run-end actions (R128) -/

section
variable {s : State} {c : RunContext}

/-- The socket when its run has ended: IDLE, and after a PULL CHECK its EFC output restored. -/
def Socket.runEnded (pull : Bool) (k : Socket) : Socket :=
  { k with
    engagement := .idle
    request := none
    lane := none
    efcOutput := if pull then (if k.supply = .on then k.efcCode else 0) else k.efcOutput }

theorem endRun_eq (kind : Kind) (k : Socket) : k.endRun kind = k.runEnded (decide (kind = .pullCheck)) := by
  cases kind <;> rfl

theorem detach_some (s : State) (p : PairId) : detach s (some p) =
    if (s.pair p).attachments ≤ 1 ∧ (s.pair p).state = .ready then
      plannerPass (s.modPair p fun x => { x with attachments := x.attachments - 1 })
    else s.modPair p fun x => { x with attachments := x.attachments - 1 } := by
  rw [detach, plannerIfFree]
  refine if_congr ?_ rfl rfl
  simp only [modPair_pair, if_true, Pair.isFree, Bool.and_eq_true, Bool.or_eq_true, decide_eq_true_eq, Nat.sub_eq_zero_iff_le]
  constructor
  · rintro ⟨⟨hle, _⟩, hready⟩; exact ⟨hle, hready⟩
  · rintro ⟨hle, hready⟩; exact ⟨⟨hle, .inr hready⟩, hready⟩

theorem commitsIn_iff (c : RunContext) (n : StationId) :
    commitsIn c n = true ↔ c.refs[n] = true ∧ ¬ (c.cause = some .stationReset ∧ n = c.request.station) := by
  rw [commitsIn, Bool.and_eq_true, Bool.not_eq_true', ← Bool.not_eq_true, Bool.and_eq_true, decide_eq_true_iff,
    decide_eq_true_iff]

/-- What stands after the run-end actions beside the pairs, the retune records, the link, the counters and the ports. -/
theorem runEndActions_frame (s : State) (c : RunContext) : ∃ retune pairs link counters ports,
    runEndActions s c =
      { ((commitAll s c).modMask c.request.mask MaskEntry.release).modSocket c.request.socket
          (Socket.endRun c.request.kind) with
        retune := retune, pairs := pairs, link := link, counters := counters, ports := ports } := by
  obtain ⟨retune, pairs, link, hdetach⟩ := detach_frame ((commitAll s c).modMask c.request.mask MaskEntry.release) c.pair
  obtain ⟨counters, ports, hbump⟩ := bumpYield_frame ((detach ((commitAll s c).modMask c.request.mask MaskEntry.release)
    c.pair).modSocket c.request.socket (Socket.endRun c.request.kind)) c.request.socket c.verdict.yieldIndex
  refine ⟨retune, pairs, link, counters, ports, hbump.trans ?_⟩
  rw [hdetach]
  rfl

theorem runEndActions_attachments (s : State) (c : RunContext) (p : PairId) :
    ((runEndActions s c).pair p).attachments =
      if c.pair = some p then (s.pair p).attachments - 1 else (s.pair p).attachments := by
  obtain ⟨counters, ports, hbump⟩ := bumpYield_frame ((detach ((commitAll s c).modMask c.request.mask MaskEntry.release)
    c.pair).modSocket c.request.socket (Socket.endRun c.request.kind)) c.request.socket c.verdict.yieldIndex
  rw [show runEndActions s c = _ from hbump]
  exact detach_attachments _ _ p

theorem commitAll_rings (s : State) (c : RunContext) : (commitAll s c).rings = Vector.ofFn fun n : StationId =>
    if c.refs[n] = true ∧ ¬ (c.cause = some .stationReset ∧ n = c.request.station) then
      ⟨commitEntries c.request.ref (c.record s.now) (s.ring n).entries⟩
    else s.ring n :=
  congrArg Vector.ofFn (funext fun n => if_congr (commitsIn_iff c n) rfl rfl)

theorem runEndActions_ring (s : State) (c : RunContext) (n : StationId) : (runEndActions s c).ring n =
    if c.refs[n] = true ∧ ¬ (c.cause = some .stationReset ∧ n = c.request.station) then
      ⟨commitEntries c.request.ref (c.record s.now) (s.ring n).entries⟩
    else s.ring n := by
  obtain ⟨retune, pairs, link, counters, ports, h⟩ := runEndActions_frame s c
  have hrings : (runEndActions s c).rings = (commitAll s c).rings := by rw [h]; rfl
  rw [State.ring, hrings, commitAll_rings, Fin.getElem_fin, Vector.getElem_ofFn]

theorem runEndActions_mask (s : State) (c : RunContext) (m : MaskId) : ((runEndActions s c).mask m).refCount =
    if m = c.request.mask then (s.mask m).refCount - 1 else (s.mask m).refCount := by
  obtain ⟨retune, pairs, link, counters, ports, h⟩ := runEndActions_frame s c
  have hmask : (runEndActions s c).mask m = ((commitAll s c).modMask c.request.mask MaskEntry.release).mask m := by
    rw [h]; rfl
  rw [hmask, modMask_mask]
  split
  next hm => rw [hm]; rfl
  next => rfl

theorem runEndActions_socket (s : State) (c : RunContext) (k : SocketId) : (runEndActions s c).socket k =
    if k = c.request.socket then (s.socket k).endRun c.request.kind else s.socket k := by
  obtain ⟨retune, pairs, link, counters, ports, h⟩ := runEndActions_frame s c
  have hsocket : (runEndActions s c).socket k = (((commitAll s c).modMask c.request.mask MaskEntry.release).modSocket
      c.request.socket (Socket.endRun c.request.kind)).socket k := by
    rw [h]; rfl
  rw [hsocket, modSocket_socket]
  split
  next hk => rw [hk]; rfl
  next => rfl

theorem runEndActions_lanes (s : State) (c : RunContext) : (runEndActions s c).lanes = s.lanes := by
  obtain ⟨retune, pairs, link, counters, ports, h⟩ := runEndActions_frame s c
  rw [h]
  rfl

end

/-! ## An ending and its lane (R124 to R126) -/

section
variable {s : State} {l : LaneId} {c d : RunContext} {e : Ending} {cause : Option AbortCause}

theorem endActive_none (h : (s.lane l).active = none) : endActive s l e cause = s := by
  simp only [endActive, h]

theorem endActive_some (h : (s.lane l).active = some c) :
    endActive s l e cause = freeLane (runEndActions (s.modLane l Lane.release) (c.ended e cause)) l := by
  simp only [endActive, h]

theorem freeLane_arbiter (h : (s.lane l).slot = none) : freeLane s l = arbitrate s := by
  simp only [freeLane, h]

theorem freeLane_resumes (h : (s.lane l).slot = some d) : freeLane s l = arbitrate (resume s l d) := by
  simp only [freeLane, h]

theorem released_slot (s : State) (l : LaneId) (c : RunContext) :
    ((runEndActions (s.modLane l Lane.release) c).lane l).slot = (s.lane l).slot := by
  rw [runEndActions_lane, modLane_lane, if_pos rfl]
  rfl

theorem abortSlot_none {cause : AbortCause} (h : (s.lane l).slot = none) : abortSlot s l cause = s := by
  simp only [abortSlot, h]

theorem abortSlot_some {cause : AbortCause} (h : (s.lane l).slot = some c) : abortSlot s l cause =
    arbitrate (runEndActions (s.modLane l fun x => { x with slot := none }) (c.ended .aborted (some cause))) := by
  simp only [abortSlot, h]

end

/-! ## The verdict (R23) -/

theorem fails_any_iff (f : FailSet) : f.any = true ↔ f ≠ ⟨false, false, false, false, false⟩ := by
  obtain ⟨band, rms, pp, glitch, pull⟩ := f
  rw [ne_eq, FailSet.mk.injEq]
  simp only [FailSet.any, Bool.or_eq_true, not_and_or, Bool.not_eq_false, or_assoc]

theorem bands_any_iff (bands : List BandRun) (x : BandState) :
    (bands.any fun b => decide (b.state = x)) = true ↔ ∃ b ∈ bands, b.state = x := by
  simp [List.any_eq_true]

/-- The lines of R23 for a run that no ending but COMPLETED and no cause decides. -/
def RunContext.resultVerdict (c : RunContext) : Verdict :=
  if c.fails.any then .fail
  else if c.bands.any fun b => decide (b.state = .unreached) then .unreached
  else if c.bands.any fun b => decide (b.state = .marginal) then .marginal
  else .pass

theorem verdict_eq (c : RunContext) : c.verdict =
    if c.cause ≠ none then .aborted
    else if c.ending = some .timeout then .timeout
    else if c.ending = some .disturbed then .disturbed
    else if c.ending = some .noSignal then .noSignal
    else if c.ending = some .offFrequency then .offFrequency
    else c.resultVerdict := by
  rw [RunContext.verdict]
  refine if_congr Option.isSome_iff_ne_none rfl ?_
  cases c.ending with
  | none => rfl
  | some x => cases x <;> rfl

/-- Settles O53, by the parts of a run end in their order. -/
theorem runEndCommitsAndReleases : Obligations.RunEndCommitsAndReleases := by
  unfold Obligations.RunEndCommitsAndReleases
  refine ⟨fun run rec es => ⟨commitEntries_none, fun before e after he hb hk => he ▸ commitEntries_first hb hk⟩,
    fun c now => rfl, fun s c => ⟨?actions, runEndActions_ring s c, runEndActions_mask s c, runEndActions_attachments s c,
      fun k => ?engagement, fun k hk => ?socket, runEndActions_lanes s c⟩,
    fun s l e cause => ⟨endActive_none, fun c hc => ⟨fun hd => ?idle, fun d hd => ?resumed⟩⟩,
    fun s l cause => ⟨abortSlot_none, fun c hc => abortSlot_some hc⟩, fun c => ?verdict⟩
  case actions =>
    have hcommit := congrArg (fun rings => ({ s with
      rings := rings
      masks := updateAt s.masks c.request.mask MaskEntry.release } : State)) (commitAll_rings s c)
    refine congr (congrArg (fun u : State => bumpYield u c.request.socket)
      (congrArg₂ (fun (u : State) f => u.modSocket c.request.socket f) ?detached (funext fun k => ?ended))) ?index
    case detached =>
      cases hp : c.pair with
      | none => exact hcommit
      | some p => exact (congrArg (fun u : State => detach u (some p)) hcommit).trans (detach_some _ p)
    case ended =>
      rw [endRun_eq]
      simp only [Socket.runEnded, decide_eq_true_eq]
    case index => cases c.verdict <;> rfl
  case engagement =>
    rw [runEndActions_socket, endRun_eq]
    split
    · rfl
    · rfl
  case socket =>
    rw [runEndActions_socket, if_pos hk, endRun_eq]
    exact ⟨rfl, rfl⟩
  case idle => exact (endActive_some hc).trans (freeLane_arbiter ((released_slot s l _).trans hd))
  case resumed => exact (endActive_some hc).trans (freeLane_resumes ((released_slot s l _).trans hd))
  case verdict =>
    rw [verdict_eq, RunContext.resultVerdict]
    simp only [fails_any_iff, bands_any_iff]

end Sys2Proof.Machine
end

section
/-!
PROOFS. READ RECORD and the counters (08_result_rings_and_verdict_records.md, R155 to R164; 09_yield_counters.md, R168
to R171): O54, O55.
-/
namespace Sys2Proof.Machine

/-! ## The verdict record in words (R161 to R164) -/

theorem bytes16_length (w : Nat) : (bytes16 w).length = 2 := rfl

theorem flatMap_length_const {α β : Type} {f : α → List β} {n : Nat} (l : List α) (h : ∀ x ∈ l, (f x).length = n) :
    (l.flatMap f).length = n * l.length := by
  induction l with
  | nil => rfl
  | cons a rest ih =>
    obtain ⟨ha, hrest⟩ := List.forall_mem_cons.mp h
    rw [List.flatMap_cons, List.length_append, ha, ih hrest, List.length_cons]
    ring

theorem recordWords_length (k : Kind) (r : Record) : (recordWords k r).length = 12 + 2 * r.bands.length := by
  have hresult : (resultWords k r).length = 2 := by cases k <;> rfl
  simp only [recordWords, List.length_append, hresult, wordPair, List.length_cons, List.length_nil]
  rw [flatMap_length_const (f := bandEntryWords) (n := 2) _ fun _ _ => rfl]

theorem descriptorWords_length (d : Descriptor) (copy : Bool) : (descriptorWords d copy).length = 4 + 2 * d.bands.length := by
  rw [descriptorWords, List.length_append, flatMap_length_const (f := bandDefinitionWords) (n := 2) _ fun _ _ => rfl]
  rfl

theorem verdictBytes_length (e : RingEntry) (r : Record) :
    (verdictBytes e r).length = 32 + 4 * e.descriptor.bands.length + 4 * r.bands.length := by
  rw [verdictBytes, flatMap_length_const (f := bytes16) _ fun w _ => bytes16_length w, List.length_append,
    descriptorWords_length, recordWords_length]
  ring

/-! ## READ RECORD (R155, R156) -/

section
variable {n : StationId} {s : State}

theorem modRing_congr {f g : Ring → Ring} (h : f (s.ring n) = g (s.ring n)) : s.modRing n f = s.modRing n g :=
  congrArg (fun rings => { s with rings := rings }) (updateAt_congr h)

theorem headRecord_committed {e : RingEntry} {es : List RingEntry} {r : Record} (h : (s.ring n).entries = e :: es)
    (hr : e.record = some r) : (s.ring n).headRecord = some (e, r) := by
  simp only [Ring.headRecord, h, hr, Option.map_some]

theorem headRecord_reserved {e : RingEntry} {es : List RingEntry} (h : (s.ring n).entries = e :: es)
    (hr : e.record = none) : (s.ring n).headRecord = none := by
  simp only [Ring.headRecord, h, hr, Option.map_none]

theorem headRecord_empty (h : (s.ring n).entries = []) : (s.ring n).headRecord = none := by
  simp only [Ring.headRecord, h]

end

/-- Settles O54, by the head of the ring: committed, reserved, or none. -/
theorem readRecordTakesTheHead : Obligations.ReadRecordTakesTheHead := by
  unfold Obligations.ReadRecordTakesTheHead
  refine ⟨fun r => ⟨List.countP_eq_length_filter.symm, List.countP_eq_length_filter.symm⟩, fun e r => ?words,
    fun n s h => ⟨fun e es r he hr => ⟨?taken, fun hb => ?length⟩, fun e es he hr => ?reserved, fun he => ?empty⟩⟩
  case words =>
    refine congrArg (List.flatMap bytes16) ?_
    rw [descriptorWords, recordWords]
    simp only [List.append_assoc]
    refine congrArg₂ (· ++ ·) ?descriptor (congrArg₂ (· ++ ·) rfl (congrArg₂ (· ++ ·) ?head (congrArg₂ (· ++ ·) ?result ?rest)))
    case descriptor =>
      refine congrArg₂ List.cons rfl (congrArg₂ List.cons rfl (congrArg₂ List.cons ?_ (congrArg₂ List.cons ?_ rfl)))
      · cases e.role <;> cases e.descriptor.kind <;> rfl
      · cases e.descriptor.pair <;> rfl
    case head =>
      refine congrArg₂ List.cons (congrArg₂ (fun v c : Nat => v + 16 * c + 128 * r.rounds + 2048 * r.retries) ?_ ?_) rfl
      · cases r.verdict <;> rfl
      · rcases r.cause with _ | x
        · rfl
        · cases x <;> rfl
    case result =>
      unfold resultWords
      cases e.descriptor.kind <;> cases r.frequency <;> rfl
    case rest =>
      rw [← List.append_assoc (wordPair _) (wordPair _)]
      refine congrArg₂ (· ++ ·) ?jitter (congrArg₂ (· ++ ·) rfl
        (congrArg (fun f => r.bands.flatMap f) (funext fun z => congrArg₂ List.cons ?_ (congrArg₂ List.cons
          (congrArg₂ (fun x y : Nat => x + 8 * y) ?_ ?_) rfl))))
      case jitter => cases r.jitter <;> rfl
      · cases z.estimate <;> rfl
      · cases z.state <;> rfl
      · cases z.floor <;> rfl
  case taken =>
    have hleft : (s.ring n).dropHead = ⟨es⟩ := by rw [Ring.dropHead, he]; rfl
    refine fixedCommand_answers h rfl ?_
    simp only [headRecord_committed he hr, recordPayload, hleft]
    rw [modRing_congr (g := fun _ => ⟨es⟩) hleft]
    rfl
  case length =>
    rw [verdictBytes_length, hb]
    ring
  case reserved =>
    refine fixedCommand_answers h rfl ?_
    simp only [headRecord_reserved he hr, heldPayload, Ring.headRole, he]
    cases e.role <;> rfl
  case empty =>
    refine fixedCommand_answers h rfl ?_
    simp only [headRecord_empty he, heldPayload, Ring.headRole, Ring.reserved, Ring.committed, Ring.free, Ring.used, he]
    rfl

/-! ## Increments (R168, R169) -/

section
variable {s : State} {k : SocketId} {i : Fin 6}

theorem applies_iff : s.counters.applies k i = true ↔
    s.counters.freeze = false ∧ (s.counters.saturate = false ∨ s.counters.counts[k][i] ≠ 65535) := by
  simp [Counters.applies]

theorem crossingFrom_isSome (v : Word16) : (crossingFrom v).isSome = true ↔ v = 32767 ∨ v = 65534 := by
  unfold crossingFrom
  by_cases hhalf : v = 32767
  · rw [if_pos hhalf]; exact ⟨fun _ => .inl hhalf, fun _ => rfl⟩
  · rw [if_neg hhalf]
    by_cases hfull : v = 65534
    · rw [if_pos hfull]; exact ⟨fun _ => .inr hfull, fun _ => rfl⟩
    · rw [if_neg hfull]; exact ⟨fun h => (by cases h), fun h => (h.elim hhalf hfull).elim⟩

theorem bumpYield_skipped (h : s.counters.freeze = true ∨ (s.counters.saturate = true ∧ s.counters.counts[k][i] = 65535)) :
    bumpYield s k i = s := by
  refine if_neg fun ha => ?_
  obtain ⟨hf, hs⟩ := applies_iff.mp ha
  rcases h with h | ⟨h, hv⟩
  · rw [hf] at h; cases h
  · rcases hs with hs | hs
    · rw [hs] at h; cases h
    · exact hs hv

theorem bumpYield_applied (hf : s.counters.freeze = false)
    (hs : s.counters.saturate = false ∨ s.counters.counts[k][i] ≠ 65535) : bumpYield s k i =
      if s.counters.counts[k][i] = 32767 ∨ s.counters.counts[k][i] = 65534 then
        (s.modCounters fun c => c.bump k i).latchAll fun l => { l with counter := true }
      else s.modCounters fun c => c.bump k i :=
  (if_pos (applies_iff.mpr ⟨hf, hs⟩)).trans (if_congr (crossingFrom_isSome _) rfl rfl)

theorem bump_eq (c : Counters) (k : SocketId) (i : Fin 6) : c.bump k i =
    { c with
      counts := updateAt c.counts k fun row => updateAt row i fun w => w + 1
      last := if c.counts[k][i] = 32767 then some ⟨k, i, .half⟩
        else if c.counts[k][i] = 65534 then some ⟨k, i, .full⟩ else c.last } := by
  rw [Counters.bump, crossingFrom]
  by_cases hhalf : c.counts[k][i] = 32767
  · simp only [if_pos hhalf]
  · by_cases hfull : c.counts[k][i] = 65534
    · simp only [if_neg hhalf, if_pos hfull]
    · simp only [if_neg hhalf, if_neg hfull]

/-- A change of the counter block is the block it leaves. -/
theorem modCounters_eq {f : Counters → Counters} {c : Counters} (h : f s.counters = c) :
    s.modCounters f = { s with counters := c } := congrArg (fun c => { s with counters := c }) h

end

/-! ## The counter commands (R170, R171) -/

/-- The counter block after COUNTER CONTROL with a settings byte and an action. -/
theorem controlled_eq (c : Counters) (a : Byte) {b : Byte} (h : b.toNat ≤ 3) :
    let fill := fun v : Word16 => Vector.replicate 16 (Vector.replicate 6 v)
    (c.configure a.toNat).act b.toNat =
      ⟨if b = 1 then fill 0 else if b = 2 then fill 32752 else if b = 3 then fill 65520 else c.counts,
       a.getLsbD 0, a.getLsbD 1, a.getLsbD 2, if b = 0 then c.last else none⟩ := by
  have hb : b = 0 ∨ b = 1 ∨ b = 2 ∨ b = 3 := by bv_omega
  simp only [Counters.configure, bitOf_toNat]
  rcases hb with rfl | rfl | rfl | rfl <;> rfl

/-- The sockets of a span are the numbers from its first on. -/
theorem spanSockets_val : ∀ first ≤ 16, ∀ count ≤ 16 - first,
    (allSockets.filter (inSpan first count)).map Fin.val = (List.range count).map (first + ·) := by decide

/-- A list is its entries in order. -/
theorem list_eq_map_getD {α : Type} (l : List α) (d : α) : l = (List.range l.length).map fun i => l.getD i d := by
  refine List.ext_getElem (by simp) fun i h _ => ?_
  simp [h]

theorem bytes16_word (v : Word16) : bytes16 v.toNat = [v.extractLsb' 0 8, v.extractLsb' 8 8] := by
  rw [bytes16]
  refine congrArg₂ List.cons ?_ (congrArg₂ List.cons ?_ rfl) <;> apply BitVec.eq_of_toNat_eq
  all_goals simp [BitVec.extractLsb'_toNat, Nat.shiftRight_eq_div_pow]

/-- A read zeroes exactly the counts of its span, with reset-on-read. -/
theorem afterCountersRead_eq (s : State) (first count : Nat) : afterCountersRead s first count =
    if s.counters.resetOnRead then
      s.modCounters fun c =>
        { c with counts := Vector.ofFn fun k : SocketId =>
            if first ≤ k.val ∧ k.val < first + count then Vector.replicate 6 0 else c.counts[k] }
    else s := by
  have hspan : ∀ k, inSpan first count k = true ↔ first ≤ k.val ∧ k.val < first + count := fun k => by simp [inSpan]
  refine if_congr Iff.rfl (congrArg s.modCounters (funext fun c => ?_)) rfl
  simp only [Counters.clearSpan, hspan]

/-- The counts of a socket, by number; 0 for what is not there. -/
def Counters.countAt (c : Counters) (k i : Nat) : Word16 := ((c.counts.toList.map Vector.toList).getD k []).getD i 0

theorem rowBytes_eq (row : Vector Word16 6) (f : Word16 → List Byte) :
    row.toList.flatMap f = (List.range 6).flatMap fun i => f (row.toList.getD i 0) := by
  conv_lhs => rw [list_eq_map_getD row.toList 0, Vector.length_toList, List.flatMap_map]

theorem countBytes_eq (c : Counters) (k : SocketId) : countBytes c.counts[k] =
    (List.range 6).flatMap fun i => [(c.countAt k.val i).extractLsb' 0 8, (c.countAt k.val i).extractLsb' 8 8] := by
  have hrow : (c.counts.toList.map Vector.toList).getD k.val [] = c.counts[k].toList := by simp
  simp only [Counters.countAt, hrow, ← bytes16_word]
  exact rowBytes_eq _ _

/-- The counts of a span of sockets, in ascending order. -/
theorem spanBytes_eq (c : Counters) {first count : Nat} (h : first + count ≤ 16) :
    ((allSockets.filter (inSpan first count)).flatMap fun k => countBytes c.counts[k]) =
      (List.range count).flatMap fun j => (List.range 6).flatMap fun i =>
        [(c.countAt (first + j) i).extractLsb' 0 8, (c.countAt (first + j) i).extractLsb' 8 8] := by
  simp only [countBytes_eq]
  rw [← List.flatMap_map Fin.val fun k => (List.range 6).flatMap fun i =>
    [(c.countAt k i).extractLsb' 0 8, (c.countAt k i).extractLsb' 8 8],
    spanSockets_val first (by omega) count (by omega), List.flatMap_map]

theorem countersPayload_length (c : Counters) {first count : Nat} (h : first + count ≤ 16) :
    (countersPayload c first count).length = 6 + 12 * count := by
  rw [countersPayload, spanBytes_eq c h, List.length_append,
    flatMap_length_const (n := 12) _ fun j _ => rfl, List.length_range]
  cases c.last <;> rfl

/-- Settles O55, by the count before an increment, and by the two bytes of each command. -/
theorem countersCountAndAreRead : Obligations.CountersCountAndAreRead := by
  unfold Obligations.CountersCountAndAreRead
  refine ⟨fun s k i => ⟨bumpYield_skipped, fun hf hs => ?applied⟩, fun n a b s h => ⟨fun hb => ?controlRange,
    fun ha hb => ?control, fun hb => ?readRange, fun h1 h8 h16 => ⟨countersPayload_length _ h16, ?payload, ?read⟩⟩⟩
  case applied =>
    rw [bumpYield_applied hf hs, modCounters_eq (bump_eq s.counters k i)]
    rfl
  case controlRange => exact fixedCommand_answers h rfl (if_pos hb)
  case control =>
    refine fixedCommand_answers h rfl ((if_neg ?_).trans ?_)
    · exact not_or.mpr ⟨not_lt.mpr ha, not_lt.mpr hb⟩
    · rw [modCounters_eq (controlled_eq s.counters a hb)]
      rfl
  case readRange => exact fixedCommand_answers h rfl (if_pos hb)
  case payload =>
    rw [countersPayload, spanBytes_eq _ h16, bytes8_toNat, bytes8_toNat]
    cases s.counters.last with
    | none => rfl
    | some x => cases hx : x.crossing <;> simp only [crossingBytes, hx] <;> rfl
  case read =>
    have hinside : ¬ (15 < a.toNat ∨ b.toNat = 0 ∨ 8 < b.toNat ∨ 16 < a.toNat + b.toNat) := by omega
    refine fixedCommand_answers h rfl ((if_neg ?_).trans ?_)
    · exact hinside
    · rw [afterCountersRead_eq]
      rfl

end Sys2Proof.Machine
end

section
/-!
PROOFS. The lane arbiter and dispatch (05_request_pool_dispatch_and_the_pair_planner.md, R94 to R102;
08_result_rings_and_verdict_records.md, R147 to R150): O45.
-/
namespace Sys2Proof.Machine

/-! ## The choice of a request (R98) -/

/-- A station's place in turn after the last-granted one. -/
def State.turn (s : State) (n : StationId) : Nat := (n - s.pool.lastGranted - 1).val

/-- The request may be chosen, and no other that may be comes before it in grant order. -/
def State.firstOf (s : State) (may : Request → Prop) (q : Request) : Prop :=
  q ∈ s.pool.requests ∧ may q ∧ ∀ y ∈ s.pool.requests, may y →
    s.turn q.station < s.turn y.station ∨ (y.station = q.station ∧ s.pool.age y ≤ s.pool.age q)

theorem mem_roundRobin (last n : StationId) : n ∈ roundRobin last := by revert last n; decide

/-- The round-robin order is that of the turns. -/
theorem roundRobin_pairwise (last : StationId) :
    (roundRobin last).Pairwise fun a b : StationId => (a - last - 1).val < (b - last - 1).val := by
  revert last; decide

section
variable {s : State} {q : Request} {qs : List Request}

theorem pick_none (h : s.pick qs = none) : qs = [] := by
  refine List.eq_nil_iff_forall_not_mem.mpr fun y hy => ?_
  have hstation := List.findSome?_eq_none_iff.mp h y.station (mem_roundRobin _ _)
  exact oldest_filter_none hstation y hy (decide_eq_true rfl)

/-- Of the candidates, the oldest of the station that is first in turn. -/
theorem pick_some (h : s.pick qs = some q) : q ∈ qs ∧ ∀ y ∈ qs,
    s.turn q.station < s.turn y.station ∨ (y.station = q.station ∧ s.pool.age y ≤ s.pool.age q) := by
  obtain ⟨before, n, after, horder, hn, hbefore⟩ := List.findSome?_eq_some_iff.mp h
  obtain ⟨hq, hstation, hage⟩ := oldest_filter_some hn
  have hstation : q.station = n := of_decide_eq_true hstation
  refine ⟨hq, fun y hy => ?_⟩
  have hpairs := roundRobin_pairwise s.pool.lastGranted
  have hmem := mem_roundRobin s.pool.lastGranted y.station
  rw [horder] at hpairs hmem
  rcases List.mem_append.mp hmem with hfirst | hmem
  · exact absurd (decide_eq_true rfl) (oldest_filter_none (hbefore _ hfirst) y hy)
  · rcases List.mem_cons.mp hmem with hsame | hlater
    · exact .inr ⟨hsame.trans hstation.symm, hage y hy (decide_eq_true hsame)⟩
    · refine .inl ?_
      rw [hstation]
      exact (List.pairwise_cons.mp (List.pairwise_append.mp hpairs).2.1).1 _ hlater

theorem pick_filter_some {f : Request → Bool} (h : s.pick (s.pool.requests.filter f) = some q) :
    s.firstOf (fun y => f y = true) q := by
  obtain ⟨hq, hfirst⟩ := pick_some h
  obtain ⟨hq, hf⟩ := List.mem_filter.mp hq
  exact ⟨hq, hf, fun y hy hfy => hfirst y (List.mem_filter.mpr ⟨hy, hfy⟩)⟩

theorem pick_filter_none {f : Request → Bool} (h : s.pick (s.pool.requests.filter f) = none) :
    ∀ y ∈ s.pool.requests, ¬ f y = true := List.filter_eq_nil_iff.mp (pick_none h)

theorem State.firstOf.congr {may might : Request → Prop} (h : s.firstOf may q) (e : ∀ y, may y ↔ might y) :
    s.firstOf might q := by
  obtain ⟨hq, hm, hfirst⟩ := h
  exact ⟨hq, (e q).mp hm, fun y hy hy' => hfirst y hy ((e y).mpr hy')⟩

theorem express_iff (q : Request) : q.requestClass = .express ↔ q.kind ≠ .measure := by
  rw [Request.requestClass]
  cases q.kind <;> decide

theorem standard_iff (q : Request) : q.requestClass = .standard ↔ q.kind = .measure := by
  rw [Request.requestClass]
  cases q.kind <;> decide

/-- An eligible EXPRESS request. -/
def State.expressReady (s : State) (q : Request) : Prop := s.eligible q = true ∧ q.kind ≠ .measure

/-- An eligible STANDARD request. -/
def State.standardReady (s : State) (q : Request) : Prop := s.eligible q = true ∧ q.kind = .measure

theorem eligibleOf_express_iff (s : State) (q : Request) :
    (decide (q.requestClass = .express) && s.eligible q) = true ↔ s.expressReady q := by
  rw [Bool.and_eq_true, decide_eq_true_iff, express_iff]
  exact and_comm

theorem eligibleOf_standard_iff (s : State) (q : Request) :
    (decide (q.requestClass = .standard) && s.eligible q) = true ↔ s.standardReady q := by
  rw [Bool.and_eq_true, decide_eq_true_iff, standard_iff]
  exact and_comm

theorem grantChoice_some (h : s.grantChoice = some q) : s.firstOf s.expressReady q ∨
    ((∀ y ∈ s.pool.requests, ¬ s.expressReady y) ∧ s.firstOf s.standardReady q) := by
  rw [State.grantChoice] at h
  cases hp : s.pick (s.eligibleOf .express) with
  | some x =>
    rw [hp] at h
    obtain rfl : x = q := Option.some.inj h
    exact .inl ((pick_filter_some hp).congr (eligibleOf_express_iff s))
  | none =>
    rw [hp] at h
    exact .inr ⟨fun y hy hx => pick_filter_none hp y hy ((eligibleOf_express_iff s y).mpr hx),
      (pick_filter_some h).congr (eligibleOf_standard_iff s)⟩

theorem grantChoice_none (h : s.grantChoice = none) : ∀ y ∈ s.pool.requests, s.eligible y = false := by
  rw [State.grantChoice] at h
  cases hp : s.pick (s.eligibleOf .express) with
  | some x => rw [hp] at h; cases h
  | none =>
    rw [hp] at h
    intro y hy
    rw [← Bool.not_eq_true]
    intro he
    by_cases hk : y.kind = .measure
    · exact pick_filter_none h y hy ((eligibleOf_standard_iff s y).mpr ⟨he, hk⟩)
    · exact pick_filter_none hp y hy ((eligibleOf_express_iff s y).mpr ⟨he, hk⟩)

end

/-! ## Usable and markable lanes (R94, R101) -/

section
variable {s : State} {l : LaneId}

theorem Lane.usable_iff (x : Lane) : x.usable = true ↔ x.state = .idle ∧ x.slot = none := by
  simp [Lane.usable]

theorem Lane.markable_iff (x : Lane) : x.markable = true ↔ x.state = .correlate ∧ x.slot = none ∧ x.mark = none ∧
    ∃ c, x.active = some c ∧ c.request.kind = .measure ∧ c.mask.preemptible = true := by
  unfold Lane.markable
  cases x.active <;> simp [standard_iff, and_assoc]

/-- The first lane that meets a test: no lane below it does. -/
theorem find?_allLanes_some {f : LaneId → Bool} (h : allLanes.find? f = some l) :
    f l = true ∧ ∀ j, j < l → f j = false := by
  obtain ⟨hl, before, after, horder, hbefore⟩ := List.find?_eq_some_iff_append.mp h
  refine ⟨hl, fun j hj => ?_⟩
  have hsorted : allLanes.Pairwise (· < ·) := by decide
  have hmem := mem_allLanes j
  rw [horder] at hsorted hmem
  rcases List.mem_append.mp hmem with hfirst | hmem
  · simpa using hbefore j hfirst
  · rcases List.mem_cons.mp hmem with rfl | hlater
    · exact absurd hj (lt_irrefl _)
    · exact absurd hj (lt_asymm ((List.pairwise_cons.mp (List.pairwise_append.mp hsorted).2.1).1 j hlater))

theorem find?_allLanes_none {f : LaneId → Bool} (h : allLanes.find? f = none) (l : LaneId) : f l = false := by
  simpa using List.find?_eq_none.mp h l (mem_allLanes l)

/-- The lane is usable: IDLE, with an empty suspend slot. -/
theorem usableLane_some (h : s.usableLane = some l) :
    ((s.lane l).state = .idle ∧ (s.lane l).slot = none) ∧ ∀ j, j < l → ¬ ((s.lane j).state = .idle ∧ (s.lane j).slot = none) := by
  obtain ⟨hl, hfirst⟩ := find?_allLanes_some h
  refine ⟨(Lane.usable_iff _).mp hl, fun j hj hu => ?_⟩
  have hnot := hfirst j hj
  rw [(Lane.usable_iff _).mpr hu] at hnot
  cases hnot

theorem usableLane_none (h : s.usableLane = none) (l : LaneId) : (s.lane l).usable = false := find?_allLanes_none h l

theorem usableLane_isSome_iff (s : State) :
    s.usableLane.isSome = true ↔ ∃ l, (s.lane l).state = .idle ∧ (s.lane l).slot = none := by
  rw [State.usableLane, List.find?_isSome]
  simp only [mem_allLanes, true_and, Lane.usable_iff]

/-! ## Grants (R97 to R99) -/

theorem eligible_mask {q : Request} (h : s.eligible q = true) : ∃ m, s.maskFor q = some m := by
  rw [State.eligible, Bool.and_eq_true] at h
  obtain ⟨hready, _⟩ := h
  rw [State.readyToRun] at hready
  cases hm : s.maskFor q with
  | none => rw [hm] at hready; cases hready
  | some m => exact ⟨m, rfl⟩

theorem grantChoice_eligible {q : Request} (h : s.grantChoice = some q) : s.eligible q = true := by
  rcases grantChoice_some h with ⟨_, ⟨he, _⟩, _⟩ | ⟨_, _, ⟨he, _⟩, _⟩
  · exact he
  · exact he

theorem grantOne_dispatches {q : Request} {m : Mask} (hl : s.usableLane = some l) (hq : s.grantChoice = some q)
    (hm : s.maskFor q = some m) : grantOne s = some (dispatch s q m l) := by
  simp only [grantOne, hl, hq, hm]

theorem grantOne_stops (h : s.usableLane = none ∨ s.grantChoice = none) : grantOne s = none := by
  unfold grantOne
  rcases h with h | h
  · rw [h]
  · rw [h]
    cases s.usableLane <;> rfl

/-- A grant is a dispatch into a usable lane. -/
theorem grantOne_some {t : State} (h : grantOne s = some t) :
    ∃ l q m, (s.lane l).usable = true ∧ t = dispatch s q m l := by
  cases hl : s.usableLane with
  | none => rw [grantOne_stops (.inl hl)] at h; cases h
  | some l =>
    cases hq : s.grantChoice with
    | none => rw [grantOne_stops (.inr hq)] at h; cases h
    | some q =>
      obtain ⟨m, hm⟩ := eligible_mask (grantChoice_eligible hq)
      rw [grantOne_dispatches hl hq hm] at h
      exact ⟨l, q, m, usableLane_usable s hl, (Option.some.inj h).symm⟩

theorem grantOne_none (h : grantOne s = none) : s.usableLane = none ∨ s.grantChoice = none := by
  cases hl : s.usableLane with
  | none => exact .inl rfl
  | some l =>
    cases hq : s.grantChoice with
    | none => exact .inr rfl
    | some q =>
      obtain ⟨m, hm⟩ := eligible_mask (grantChoice_eligible hq)
      rw [grantOne_dispatches hl hq hm] at h
      cases h

/-! ## Counting lanes: what bounds the grants and the marks -/

/-- The lanes that meet a test. -/
def State.lanesThat (s : State) (f : Lane → Bool) : List LaneId := allLanes.filter fun l => f (s.lane l)

theorem lanesThat_length_le (s : State) (f : Lane → Bool) : (s.lanesThat f).length ≤ 4 := List.length_filter_le _ _

/-- One lane no longer meets the test, and the others stand as they did: there are fewer. -/
theorem lanesThat_lt {s t : State} {f : Lane → Bool} (hs : f (s.lane l) = true) (ht : f (t.lane l) = false)
    (ho : ∀ j, j ≠ l → t.lane j = s.lane j) : (t.lanesThat f).length < (s.lanesThat f).length := by
  have hfilter : t.lanesThat f = (s.lanesThat f).filter fun j => decide (j ≠ l) := by
    rw [State.lanesThat, State.lanesThat, List.filter_filter]
    refine List.filter_congr fun j _ => ?_
    by_cases e : j = l
    · subst e; simp [ht]
    · simp [e, ho j e]
  rw [hfilter, List.length_filter_lt_length_iff_exists]
  exact ⟨l, List.mem_filter.mpr ⟨mem_allLanes l, hs⟩, by simp⟩

theorem lanesThat_empty {f : Lane → Bool} (h : (s.lanesThat f).length = 0) (l : LaneId) : f (s.lane l) = false := by
  rw [← Bool.not_eq_true]
  exact List.filter_eq_nil_iff.mp (List.length_eq_zero_iff.mp h) l (mem_allLanes l)

theorem dispatch_unusable (s : State) (q : Request) (m : Mask) (l : LaneId) :
    ((dispatch s q m l).lane l).usable = false := by
  obtain ⟨_, hstate, _, _⟩ := dispatch_self s q m l
  simp [Lane.usable, hstate]

/-- Grants stop when no usable lane is left beside an eligible request. -/
theorem grantLoop_done {k : Nat} (h : (s.lanesThat Lane.usable).length ≤ k) : grantOne (grantLoop k s) = none := by
  induction k generalizing s with
  | zero =>
    have hnone : s.usableLane = none := List.find?_eq_none.mpr fun j _ => by
      simp [lanesThat_empty (Nat.le_zero.mp h) j]
    exact grantOne_stops (.inl hnone)
  | succ k ih =>
    cases hg : grantOne s with
    | none => simp only [grantLoop, hg]
    | some t =>
      obtain ⟨l, q, m, hl, rfl⟩ := grantOne_some hg
      have hfewer := lanesThat_lt (f := Lane.usable) hl (dispatch_unusable s q m l) fun j => dispatch_other s q m l j
      simp only [grantLoop, hg]
      exact ih (by omega)

/-- A dispatch leaves no new mark. -/
theorem dispatch_marks (s : State) (q : Request) (m : Mask) (l : LaneId) (h : ∀ j, (s.lane j).mark = none) (j : LaneId) :
    ((dispatch s q m l).lane j).mark = none := by
  by_cases e : j = l
  · subst e; exact (dispatch_self s q m j).2.2.2
  · rw [dispatch_other s q m l j e]; exact h j

theorem grantLoop_marks {k : Nat} (h : ∀ j, (s.lane j).mark = none) (j : LaneId) : ((grantLoop k s).lane j).mark = none := by
  induction k generalizing s with
  | zero => exact h j
  | succ k ih =>
    cases hg : grantOne s with
    | none => simp only [grantLoop, hg]; exact h j
    | some t =>
      obtain ⟨l, q, m, _, rfl⟩ := grantOne_some hg
      simp only [grantLoop, hg]
      exact ih (dispatch_marks s q m l h)

end

/-! ## Marks (R101, R102) -/

/-- The two states differ in the marks of lanes alone. -/
def MarksOnly (s t : State) : Prop :=
  ∃ lanes : Vector Lane 4, t = { s with lanes := lanes } ∧ ∀ l : LaneId, ∃ m, lanes[l] = { s.lane l with mark := m }

section
variable {s t u : State} {l : LaneId} {q : Request}

theorem MarksOnly.refl (s : State) : MarksOnly s s := ⟨s.lanes, rfl, fun l => ⟨(s.lane l).mark, rfl⟩⟩

theorem MarksOnly.lane (h : MarksOnly s t) (l : LaneId) : ∃ m, t.lane l = { s.lane l with mark := m } := by
  obtain ⟨lanes, rfl, hlanes⟩ := h
  exact hlanes l

theorem MarksOnly.trans (a : MarksOnly s t) (b : MarksOnly t u) : MarksOnly s u := by
  obtain ⟨v, rfl, hv⟩ := a
  obtain ⟨w, rfl, hw⟩ := b
  refine ⟨w, rfl, fun l => ?_⟩
  obtain ⟨m, hm⟩ := hw l
  obtain ⟨m', hm'⟩ := hv l
  exact ⟨m, hm.trans (congrArg (fun x : Lane => { x with mark := m }) hm')⟩

theorem MarksOnly.usable (h : MarksOnly s t) (l : LaneId) : (t.lane l).usable = (s.lane l).usable := by
  obtain ⟨m, hm⟩ := h.lane l
  rw [hm]
  rfl

theorem MarksOnly.usableLane (h : MarksOnly s t) : t.usableLane = s.usableLane :=
  congrArg (fun f => allLanes.find? f) (funext h.usable)

theorem MarksOnly.requests (h : MarksOnly s t) : t.pool.requests = s.pool.requests := by
  obtain ⟨lanes, rfl, _⟩ := h
  rfl

theorem MarksOnly.eligible (h : MarksOnly s t) (q : Request) : t.eligible q = s.eligible q := by
  rw [State.eligible, State.eligible, h.usableLane]
  obtain ⟨lanes, rfl, _⟩ := h
  rfl

theorem MarksOnly.modLane (s : State) (l : LaneId) (m : Option RequestRef) :
    MarksOnly s (s.modLane l fun x => { x with mark := m }) := by
  refine ⟨_, rfl, fun j => ?_⟩
  by_cases e : j = l
  · subst e
    exact ⟨m, by simp [updateAt, State.lane]⟩
  · exact ⟨(s.lane j).mark, (modLane_lane s l _ j).trans (if_neg e)⟩

theorem withdrawStale_lane (s : State) (l : LaneId) : (withdrawStale s).lane l =
    if ∃ r, (s.lane l).mark = some r ∧ s.markStands r = false then { s.lane l with mark := none } else s.lane l := by
  rw [State.lane, withdrawStale, Fin.getElem_fin, Vector.getElem_ofFn]
  cases hm : (s.lane l).mark with
  | none => simp
  | some r => cases hr : s.markStands r <;> simp [hr]

theorem withdrawAll_lane (s : State) (l : LaneId) : (withdrawAll s).lane l = { s.lane l with mark := none } := by
  rw [State.lane, withdrawAll, Fin.getElem_fin, Vector.getElem_ofFn]

theorem withdrawStale_marksOnly (s : State) : MarksOnly s (withdrawStale s) := by
  refine ⟨_, rfl, fun l => ?_⟩
  have h := withdrawStale_lane s l
  split at h
  · exact ⟨none, h⟩
  · exact ⟨(s.lane l).mark, h⟩

theorem markStands_eq (s : State) (r : RequestRef) : s.markStands r = (s.queued r).any s.eligible := by
  rw [State.markStands]
  cases s.queued r <;> rfl

/-- An eligible EXPRESS request that no lane is marked for. -/
def State.unmarkedReady (s : State) (q : Request) : Prop :=
  s.expressReady q ∧ ∀ l, (s.lane l).mark ≠ some q.ref

theorem marked_iff (s : State) (r : RequestRef) : s.marked r = true ↔ ∃ l, (s.lane l).mark = some r := by
  simp [State.marked, mem_allLanes]

theorem unmarkedReady_iff (s : State) (q : Request) :
    (!s.marked q.ref && (decide (q.requestClass = .express) && s.eligible q)) = true ↔ s.unmarkedReady q := by
  rw [Bool.and_eq_true, eligibleOf_express_iff, Bool.not_eq_true', ← Bool.not_eq_true, marked_iff, not_exists]
  exact and_comm

theorem markPick_some (h : s.pick ((s.eligibleOf .express).filter fun q => !s.marked q.ref) = some q) :
    s.firstOf s.unmarkedReady q := by
  rw [State.eligibleOf, List.filter_filter] at h
  exact (pick_filter_some h).congr (unmarkedReady_iff s)

theorem markPick_none (h : s.pick ((s.eligibleOf .express).filter fun q => !s.marked q.ref) = none) :
    ∀ y ∈ s.pool.requests, ¬ s.unmarkedReady y := by
  rw [State.eligibleOf, List.filter_filter] at h
  exact fun y hy hu => pick_filter_none h y hy ((unmarkedReady_iff s y).mpr hu)

/-- A mark goes to the lowest-numbered markable lane, for the first in grant order of the requests without one. -/
theorem markOne_some (h : markOne s = some t) : ∃ l q, ((s.lane l).markable = true ∧ ∀ j, j < l → (s.lane j).markable = false) ∧
    s.firstOf s.unmarkedReady q ∧ t = s.modLane l fun x => { x with mark := some q.ref } := by
  rw [markOne] at h
  cases hl : s.markableLane with
  | none => simp [hl] at h
  | some l =>
    cases hq : s.pick ((s.eligibleOf .express).filter fun q => !s.marked q.ref) with
    | none => simp [hl, hq] at h
    | some q =>
      simp only [hl, hq, Option.some.injEq] at h
      exact ⟨l, q, find?_allLanes_some hl, markPick_some hq, h.symm⟩

theorem markOne_none (h : markOne s = none) :
    (∀ l, (s.lane l).markable = false) ∨ ∀ y ∈ s.pool.requests, ¬ s.unmarkedReady y := by
  rw [markOne] at h
  cases hl : s.markableLane with
  | none => exact .inl (find?_allLanes_none hl)
  | some l =>
    cases hq : s.pick ((s.eligibleOf .express).filter fun q => !s.marked q.ref) with
    | none => exact .inr (markPick_none hq)
    | some q => simp [hl, hq] at h

theorem markOne_marksOnly (h : markOne s = some t) : MarksOnly s t := by
  obtain ⟨l, q, _, _, rfl⟩ := markOne_some h
  exact MarksOnly.modLane s l _

theorem markLoop_marksOnly (k : Nat) (s : State) : MarksOnly s (markLoop k s) := by
  induction k generalizing s with
  | zero => exact MarksOnly.refl s
  | succ k ih =>
    cases hm : markOne s with
    | none => simp only [markLoop, hm]; exact MarksOnly.refl s
    | some t => simp only [markLoop, hm]; exact (markOne_marksOnly hm).trans (ih t)

theorem markOne_stops (h : s.markableLane = none) : markOne s = none := by
  simp only [markOne, h]

/-- Marks are placed until no lane is markable or no eligible EXPRESS request is without one. -/
theorem markLoop_done {k : Nat} (h : (s.lanesThat Lane.markable).length ≤ k) : markOne (markLoop k s) = none := by
  induction k generalizing s with
  | zero => exact markOne_stops (s := s) (List.find?_eq_none.mpr fun j _ => by simp [lanesThat_empty (Nat.le_zero.mp h) j])
  | succ k ih =>
    cases hm : markOne s with
    | none => simp only [markLoop, hm]
    | some t =>
      obtain ⟨l, q, ⟨hl, _⟩, _, ht⟩ := markOne_some hm
      have hself : (t.lane l).markable = false := by
        rw [ht, modLane_lane, if_pos rfl]
        simp [Lane.markable]
      have hother : ∀ j, j ≠ l → t.lane j = s.lane j := fun j hj => by rw [ht, modLane_lane, if_neg hj]
      have hfewer := lanesThat_lt (f := Lane.markable) hl hself hother
      simp only [markLoop, hm]
      exact ih (by omega)

/-- Every mark names an eligible request of the pool. -/
def State.marksStand (s : State) : Prop :=
  ∀ l r, (s.lane l).mark = some r → ∃ q ∈ s.pool.requests, q.ref = r ∧ s.eligible q = true

theorem MarksOnly.marksStand (h : MarksOnly s t)
    (w : ∀ l r, (t.lane l).mark = some r → ∃ q ∈ s.pool.requests, q.ref = r ∧ s.eligible q = true) : t.marksStand :=
  fun l r hm => by
    obtain ⟨q, hq, href, he⟩ := w l r hm
    exact ⟨q, by rw [h.requests]; exact hq, href, by rw [h.eligible]; exact he⟩

theorem markOne_marksStand (w : s.marksStand) (h : markOne s = some t) : t.marksStand := by
  obtain ⟨l, q, _, ⟨hq, ⟨⟨he, _⟩, _⟩, _⟩, ht⟩ := markOne_some h
  refine (markOne_marksOnly h).marksStand fun j r hm => ?_
  rw [ht, modLane_lane] at hm
  split at hm
  · exact ⟨q, hq, Option.some.inj hm, he⟩
  · exact w j r hm

theorem markLoop_marksStand (k : Nat) (w : s.marksStand) : (markLoop k s).marksStand := by
  induction k generalizing s with
  | zero => exact w
  | succ k ih =>
    cases hm : markOne s with
    | none => simp only [markLoop, hm]; exact w
    | some t => simp only [markLoop, hm]; exact ih (markOne_marksStand w hm)

theorem withdrawStale_marksStand (s : State) : (withdrawStale s).marksStand := by
  refine (withdrawStale_marksOnly s).marksStand fun l r hm => ?_
  rw [withdrawStale_lane] at hm
  split at hm
  · cases hm
  next hstale =>
    have hstands : s.markStands r = true := by
      rw [← Bool.not_eq_false]
      exact fun e => hstale ⟨r, hm, e⟩
    rw [markStands_eq, Option.any_eq_true] at hstands
    obtain ⟨q, hq, he⟩ := hstands
    exact ⟨q, queued_mem s hq, queued_ref hq, he⟩

/-! ## The arbiter (R97) -/

/-- The state after the arbiter's grants, before its marks. -/
def granted (s : State) : State :=
  if (withdrawStale s).usableLane.isSome && (withdrawStale s).grantChoice.isSome then
    grantLoop 4 (withdrawAll (withdrawStale s))
  else withdrawStale s

theorem granted_done (s : State) : grantOne (granted s) = none := by
  rw [granted]
  split
  · exact grantLoop_done (lanesThat_length_le _ _)
  next h =>
    refine grantOne_stops ?_
    rw [Bool.and_eq_true, not_and_or, Option.not_isSome_iff_eq_none, Option.not_isSome_iff_eq_none] at h
    exact h

theorem granted_marksStand (s : State) : (granted s).marksStand := by
  rw [granted]
  split
  · intro l r hm
    rw [grantLoop_marks fun j => by rw [withdrawAll_lane]] at hm
    cases hm
  · exact withdrawStale_marksStand s

theorem arbitrate_marksOnly (s : State) : MarksOnly (granted s) (arbitrate s) := markLoop_marksOnly 4 _

/-- After the arbiter's work no request is eligible beside a usable lane. -/
theorem arbitrate_done (s : State) : (arbitrate s).usableLane = none ∨
    ∀ q ∈ (arbitrate s).pool.requests, (arbitrate s).eligible q = false := by
  have hmarks := arbitrate_marksOnly s
  rw [hmarks.usableLane, hmarks.requests]
  refine (grantOne_none (granted_done s)).imp_right fun hnone q hq => ?_
  rw [hmarks.eligible]
  exact grantChoice_none hnone q hq

theorem arbitrate_marksStand (s : State) : (arbitrate s).marksStand := markLoop_marksStand 4 (granted_marksStand s)

theorem arbitrate_marked (s : State) : (∀ l, ((arbitrate s).lane l).markable = false) ∨
    ∀ q ∈ (arbitrate s).pool.requests, (arbitrate s).eligible q = true → q.kind ≠ .measure →
      ∃ l, ((arbitrate s).lane l).mark = some q.ref := by
  refine (markOne_none (markLoop_done (lanesThat_length_le (granted s) _))).imp_right fun hnone q hq he hk => ?_
  by_contra hmark
  exact hnone q hq ⟨⟨he, hk⟩, not_exists.mp hmark⟩

end

/-! ## Eligibility and the wait reasons (R94, R95) -/

section
variable {s : State} {q : Request} {m : Mask}

theorem bitOf_bitsOf (flags : List Bool) (i : Nat) : bitOf (bitsOf flags) i = flags.getD i false :=
  Nat.testBit_eq_decide_div_mod_eq.symm.trans (testBit_bitsOf flags i)

theorem paired_iff (s : State) (q : Request) (m : Mask) : s.paired q m = true ↔
    (q.band = true → ∃ p, (s.pair p).state = .ready ∧ (s.pair p).tuned = some m.nominal) := by
  rw [State.paired, Bool.or_eq_true, Bool.not_eq_true', List.any_eq_true]
  simp only [mem_allPairs, true_and, Pair.readyAt_iff]
  cases q.band <;> simp

theorem served_iff (s : State) (f : Nat) : (allPairs.any fun p => (s.pair p).serves f) = true ↔
    ∃ p, (s.pair p).state ≠ .off ∧ (s.pair p).state ≠ .fault ∧ (s.pair p).tuned = some f := by
  rw [List.any_eq_true]
  simp only [mem_allPairs, true_and, Pair.serves_iff]

theorem ringRoom_iff (s : State) (q : Request) : s.ringRoom q = true ↔ (s.ring q.station).used + q.size ≤ 512 :=
  decide_eq_true_iff

theorem readyToRun_iff (hm : s.maskFor q = some m) : s.readyToRun q = true ↔
    (s.socket q.socket).supply = .on ∧ m.warmUp ≤ (s.socket q.socket).poweredFor ∧
    (q.band = true → ∃ p, (s.pair p).state = .ready ∧ (s.pair p).tuned = some m.nominal) ∧
    (s.ring q.station).used + q.size ≤ 512 := by
  simp only [State.readyToRun, hm, Bool.and_eq_true, paired_iff, ringRoom_iff, and_assoc]
  simp only [State.powered, State.warm, decide_eq_true_eq]

theorem eligible_iff (s : State) (q : Request) : s.eligible q = true ↔ s.readyToRun q = true ∧
    (q.kind = .measure → ∃ l, (s.lane l).state = .idle ∧ (s.lane l).slot = none) := by
  rw [State.eligible, Bool.and_eq_true, Bool.or_eq_true, decide_eq_true_iff, express_iff, usableLane_isSome_iff,
    ← imp_iff_not_or]

/-- The six reasons, in the order of their bits. -/
def State.reasonFlags (s : State) (q : Request) (m : Mask) : List Bool :=
  [decide ((s.socket q.socket).supply ≠ .on), decide ((s.socket q.socket).supply = .on) && !s.warm q m,
   q.band && !(allPairs.any fun p => (s.pair p).serves m.nominal),
   q.band && (allPairs.any fun p => (s.pair p).serves m.nominal) && !s.paired q m, !s.ringRoom q,
   s.readyToRun q && s.usableLane.isNone]

theorem waitReasons_eq (hm : s.maskFor q = some m) : s.waitReasons q = bitsOf (s.reasonFlags q m) := by
  simp only [State.waitReasons, hm, State.reasonFlags]

/-- A reason that asks one condition and the failure of another. -/
theorem reasonAnd_iff (x y : Bool) : (x && !y) = true ↔ x = true ∧ ¬ y = true := by cases x <;> cases y <;> decide

theorem reasonNot_iff (x : Bool) : (!x) = true ↔ ¬ x = true := by cases x <;> decide

theorem reason_iff (hm : s.maskFor q = some m) (i : Nat) :
    bitOf (s.waitReasons q) i = true ↔ (s.reasonFlags q m).getD i false = true := by
  rw [waitReasons_eq hm, bitOf_bitsOf]

end

/-! ## Reservations and dispatch (R99, R147 to R150) -/

section
variable {s : State} {q : Request} {m : Mask} {pair : Option PairId} {n : StationId}

theorem hasRoom_iff (r : Ring) (size : Nat) : r.hasRoom size = true ↔ r.used + size ≤ 512 := decide_eq_true_iff

theorem reservedIn_iff (s : State) (q : Request) (m : Mask) (n : StationId) : (reservedIn s q m)[n] = true ↔
    (n = q.station ∨ m.copySet[n] = true) ∧ (s.ring n).used + q.size ≤ 512 := by
  rw [reservedIn, Fin.getElem_fin, Vector.getElem_ofFn, Bool.and_eq_true, wantsRecord, Bool.or_eq_true, decide_eq_true_iff,
    hasRoom_iff]

theorem skippedBy_iff (s : State) (q : Request) (m : Mask) (n : StationId) : (skippedBy s q m)[n] = true ↔
    m.copySet[n] = true ∧ n ≠ q.station ∧ 512 < (s.ring n).used + q.size := by
  rw [skippedBy, Fin.getElem_fin, Vector.getElem_ofFn, Bool.and_eq_true, Bool.and_eq_true, Bool.not_eq_true',
    Bool.not_eq_true', ← Bool.not_eq_true, ← Bool.not_eq_true, decide_eq_true_iff, hasRoom_iff, not_le, and_assoc]

theorem reserveAll_rings (s : State) (q : Request) (m : Mask) (pair : Option PairId) : (reserveAll s q m pair).rings =
    Vector.ofFn fun n : StationId =>
      if (n = q.station ∨ m.copySet[n] = true) ∧ (s.ring n).used + q.size ≤ 512 then
        ⟨(s.ring n).entries ++ [entryFor s q m pair n]⟩
      else s.ring n :=
  congrArg Vector.ofFn (funext fun n => if_congr (reservedIn_iff s q m n) rfl rfl)

end

/-- Settles O45, by the choices of the arbiter, the bound of its loops by the four lanes, and the parts of a dispatch. -/
theorem arbiterLeavesNoEligibleRequestBesideAUsableLane :
    Obligations.ArbiterLeavesNoEligibleRequestBesideAUsableLane := by
  unfold Obligations.ArbiterLeavesNoEligibleRequestBesideAUsableLane
  refine ⟨fun s f => ⟨fun p h => ?attach, fun h p hp => ?noPair⟩, fun r => rfl, fun s q m pair n =>
    ⟨reservedIn_iff s q m n, skippedBy_iff s q m n, ?entry⟩, arbitrate_done, fun s q m hm => ?eligibility, fun s => ?choices,
    fun q m pair refs skipped now => ?created, fun s q m l => ?dispatched⟩
  case attach =>
    obtain ⟨hready, hbest⟩ := attachChoice_some h
    exact ⟨(Pair.readyAt_iff _).mp hready, fun j hj => hbest j ((Pair.readyAt_iff _).mpr hj)⟩
  case noPair =>
    have hnone := attachChoice_none.mp h p
    rw [(Pair.readyAt_iff _).mpr hp] at hnone
    cases hnone
  case entry =>
    unfold entryFor descriptorFor
    cases q.band <;> cases m.band <;> rfl
  case eligibility =>
    refine ⟨(eligible_iff s q).trans (and_congr_left' (readyToRun_iff hm)), (reason_iff hm 0).trans ?supply,
      (reason_iff hm 1).trans ?warm, (reason_iff hm 2).trans ?served, (reason_iff hm 3).trans ?ready,
      (reason_iff hm 4).trans ?room, (reason_iff hm 5).trans ?lane, ?bound⟩
    case supply => exact decide_eq_true_iff
    case warm =>
      refine (reasonAnd_iff _ _).trans (and_congr decide_eq_true_iff ?_)
      rw [State.warm, decide_eq_true_iff, not_le]
    case served => exact (reasonAnd_iff _ _).trans (and_congr_right' (served_iff s m.nominal).not)
    case ready =>
      refine (reasonAnd_iff _ _).trans ?_
      rw [Bool.and_eq_true, served_iff, paired_iff, Classical.not_imp]
      exact ⟨fun ⟨⟨hb, hs⟩, _, hr⟩ => ⟨hb, hs, hr⟩, fun ⟨hb, hs, hr⟩ => ⟨⟨hb, hs⟩, hb, hr⟩⟩
    case room => exact (reasonNot_iff _).trans (ringRoom_iff s q).not
    case lane =>
      refine (Bool.and_eq_true_iff).trans (and_congr (readyToRun_iff hm) ?_)
      rw [Option.isNone_iff_eq_none, ← Option.not_isSome_iff_eq_none, usableLane_isSome_iff]
    case bound =>
      rw [waitReasons_eq hm]
      exact bitsOf_lt _
  case choices =>
    refine ⟨fun q => grantChoice_some, grantChoice_none, fun l => usableLane_some,
      fun h l hu => ?unusable, fun l q m hl hq hm => grantOne_dispatches hl hq hm, grantOne_stops, fun t h => ?mark,
      fun h => ?noMark, fun l h => ?kept, fun l r h => ?withdrawn, withdrawAll_lane s, rfl, fun k => rfl, fun k => rfl,
      arbitrate_marksStand s, arbitrate_marked s⟩
    case unusable =>
      have hnot := usableLane_none h l
      rw [(Lane.usable_iff _).mpr hu] at hnot
      cases hnot
    case mark =>
      obtain ⟨l, q, ⟨hl, hlow⟩, hq, ht⟩ := markOne_some h
      refine ⟨l, q, (Lane.markable_iff _).mp hl, fun j hj hm => ?_, hq, ht⟩
      have hnot := hlow j hj
      rw [(Lane.markable_iff _).mpr hm] at hnot
      cases hnot
    case noMark =>
      refine (markOne_none h).imp_left fun hnone l hm => ?_
      have hnot := hnone l
      rw [(Lane.markable_iff _).mpr hm] at hnot
      cases hnot
    case kept =>
      rw [withdrawStale_lane, if_neg]
      rintro ⟨r, hr, _⟩
      rw [h] at hr
      cases hr
    case withdrawn =>
      rw [withdrawStale_lane, ← markStands_eq]
      cases hstands : s.markStands r <;> simp [h, hstands]
  case created =>
    unfold RunContext.create stagePlan runBands
    cases q.kind <;> cases m.band <;> rfl
  case dispatched =>
    dsimp only
    rw [← reserveAll_rings s q m, dispatch]
    refine congrArg (fun u : State => comeToStart u l .edgeStage) ?_
    rw [State.pairFor]
    cases (if q.band = true then s.attachChoice m.nominal else none) <;> rfl

end Sys2Proof.Machine
end
